-- ==== Sys2Proof/Word.lean ====
section
/-! DEFINITION. The word widths of the SoftModem block: the stimulus word (30_encoding.md R80), the
byte, the 16-bit register word (10_state.md section 10) and the timer word (10_state.md R21).

The timer word: the spec declares the timer registers uWT, WT the number of bits that hold M - 1,
with M at most 32768 (00_scope.md R7), so at most 15 bits. One fixed width of 15 bits holds them for
every valid M, and their values are below M whatever the width (log entry 1, DESIGN CHOICE, safe). -/

namespace Sys2Proof

/-- One byte (u8): a FIFO slot, RX_SHIFT (10_state.md R33, R34). -/
abbrev Byte := BitVec 8

/-- A 16-bit value (u16): a host register, an accumulator, a FIFO index (10_state.md R28 to R36, R51). -/
abbrev Half := BitVec 16

/-- A timer register (uWT) at the widest WT that 00_scope.md R7 admits. -/
abbrev TimerWord := BitVec 15

/-- One stimulus word (30_encoding.md R80). -/
abbrev StimulusWord := BitVec 24

end Sys2Proof
end

