-- ==== Sys2Proof/Config.lean ====
section
/-! DEFINITION. What one instance of the block fixes at construction: the parameter record of
00_scope.md R5, the configuration record of derived constants and selectors of 10_state.md R20, its
validity (00_scope.md R7), the reference values (R5, R8), and the one free value of the model. The
formulas that derive the configuration from the parameters are in Machine/Construct.lean. -/

namespace Sys2Proof

/-- First-sample alignment at start detection (00_scope.md R5, 41_classifier.md R130). -/
inductive StartAlign where
  | compensated
  | now
  deriving DecidableEq, Repr

/-- The implementation parameters of 00_scope.md R5. -/
structure Params where
  baud : Nat
  lowHz : Nat
  highHz : Nat
  depth : Nat
  tickHz : Nat
  m : Nat
  bandNum : Nat
  bandDen : Nat
  noiseNum : Nat
  noiseDen : Nat
  startNum : Nat
  startDen : Nat
  startAlign : StartAlign
  symReset : Bool
  hasModulator : Bool
  tcntInit : Nat
  deriving DecidableEq, Repr

/-- The configuration of a block: the constants and selectors of 10_state.md R20, read-only for its life. -/
structure Config where
  bitTicks : Nat
  lowNom : Nat
  highNom : Nat
  lowCyc : Nat
  highCyc : Nat
  lowLo : Nat
  lowHi : Nat
  highLo : Nat
  highHi : Nat
  noiseFloor : Nat
  startTh : Nat
  depth : Nat
  m : Nat
  startAlign : StartAlign
  symReset : Bool
  hasModulator : Bool
  deriving DecidableEq, Repr

/-- The ranges of 00_scope.md R7. -/
abbrev Config.Valid (c : Config) : Prop :=
  2 ≤ c.m ∧ c.m ≤ 32768 ∧ 1 ≤ c.bitTicks ∧ c.bitTicks ≤ c.m ∧
  1 ≤ c.lowNom ∧ 1 ≤ c.highNom ∧ 1 ≤ c.lowCyc ∧ 1 ≤ c.highCyc ∧
  2 ≤ c.depth ∧ c.depth ≤ 65536 ∧ c.startTh ≤ 65535 ∧
  c.lowLo ≤ 65535 ∧ c.lowHi ≤ 65535 ∧ c.highLo ≤ 65535 ∧ c.highHi ≤ 65535

/-- The modulator's 16-bit registers hold what LoadBit assigns to them without truncation
(10_state.md R42, R44; 44_modulator.md R214). Every configuration derived by 00_scope.md R6 from
parameters and valid by R7 has it; a record of derived constants taken directly need not. -/
abbrev Config.TonesFit (c : Config) : Prop :=
  c.lowNom ≤ 65535 ∧ c.highNom ≤ 65535 ∧ 2 * c.lowCyc ≤ 65535 ∧ 2 * c.highCyc ≤ 65535

/-- The reference parameters of 00_scope.md R5. TCNT_INIT is there "drawn; 0 in vectors": 0 (log entry 3,
DESIGN CHOICE, unsafe). -/
def Params.reference : Params where
  baud := 1225
  lowHz := 4900
  highHz := 7350
  depth := 32
  tickHz := 294000
  m := 256
  bandNum := 1
  bandDen := 5
  noiseNum := 1
  noiseDen := 2
  startNum := 7
  startDen := 10
  startAlign := .compensated
  symReset := false
  hasModulator := true
  tcntInit := 0

/-- The reference configuration: the derived constants of 00_scope.md R8 and the selectors of R5. -/
def Config.reference : Config where
  bitTicks := 240
  lowNom := 30
  highNom := 20
  lowCyc := 4
  highCyc := 6
  lowLo := 24
  lowHi := 36
  highLo := 16
  highHi := 24
  noiseFloor := 10
  startTh := 168
  depth := 32
  m := 256
  startAlign := .compensated
  symReset := false
  hasModulator := true

/-- The free value of the model: the byte that a FIFO slot holds which no push has written since the last
hardware reset (10_state.md R34: "unspecified, any value"), by the number of resets so far and the slot
(log entry 4, DESIGN CHOICE, safe: no body, so no proof can see what it is). -/
opaque Config.unwrittenSlot : Nat → Nat → Byte

end Sys2Proof
end

