-- ==== Sys2Proof/Machine/State.lean ====
section
/-! DEFINITION. The state of the block: every register of 10_state.md, the configuration (R20), the fault
mark (R45), and three fields of the model's own (the observation of the last step, the stimuli still to be
applied, the number of resets). Reset values: 10_state.md R50. -/

namespace Sys2Proof.Machine

/-- FRAME_STATE, "one of Idle, Start, Data0..Data7, Parity, Stop" (10_state.md R32). The codes 12 to 15
do not exist (93_implementation_defined.md U19; log entry 13). -/
inductive FrameState where
  | idle
  | start
  | data (i : Fin 8)
  | parity
  | stop
  deriving DecidableEq, Repr

/-- Why a run is faulted (60_exceptions.md R238). The step that raises one answers a next state whose
`faulted` holds it; every later step answers `fault` with it (R239; log entry 8). -/
inductive Fault where
  /-- Code 1. Raised by WR TXDATA and WR TXBIT with HAS_MODULATOR = 1 and TXEN = 0 (44_modulator.md R215).
  Safe: the source calls the behaviour undefined, and no later step is answered. -/
  | txBeforeBegin
  /-- Code 2. Raised by a word that decodes as Illegal (30_encoding.md R89). Safe, for the same reason. -/
  | illegalStimulus
  deriving DecidableEq, Repr

/-- Why a step has no meaning. -/
inductive Refusal where
  /-- An instruction without a meaning: raised by no arm of `exec`. Safe. -/
  | notModelled (mnemonic : String)
  /-- No stimulus is pending, so the run has ended (70_reset_and_hazards.md R277): raised by `step` alone.
  Safe: a step is the application of a stimulus (00_scope.md R12), and there is none. -/
  | noStimulus
  deriving DecidableEq, Repr

/-- The events of 60_exceptions.md R231. -/
inductive Event where
  | noiseDiscard (raw : Half)
  | classMiss (raw : Half) (s : Half)
  | falseStart
  | bufferOverrun (byte : Byte)
  | notAvailable
  | startDetect (lowCount : Half)
  | bitSample (before : FrameState) (bit : Bool)
  | byteReceived (byte : Byte)
  | txToggle (level : Bool)
  deriving DecidableEq, Repr

/-- What a step returns to its agent: nothing, the 16 bits of an RD (20_memory.md R64), HELD
(43_fifo_host.md R187), or the byte or none of FifoPop performed on its own (R181). -/
inductive Response where
  | none
  | value (v : Half)
  | held
  | popped (r : Option Byte)
  deriving DecidableEq, Repr

/-- The observation of one step besides the fault mark (00_scope.md R13, 10_state.md R46). The model's own
field: no rule of the block reads it (log entry 9). -/
structure Output where
  events : List Event
  response : Response
  deriving DecidableEq, Repr

/-- One item of a run: a stimulus word, or the environment's hardware reset with the draw of TCNT_INIT
(00_scope.md R12, 70_reset_and_hazards.md R260; log entries 5 and 7). -/
inductive Stimulus where
  | word (w : StimulusWord)
  | reset (draw : Nat)
  deriving DecidableEq, Repr

/-- Byte storage by address, in canonical form: addresses strictly rising. An unlisted address has no stored
value. The block's one storage array is the FIFO's BUF (10_state.md R34); an address is a slot number. -/
abbrev Memory := List Host.Cell

/-- The canonical form of byte storage. An entry always holds a byte and an unlisted address holds none, so
no entry equals what an unlisted address reads as. -/
abbrev Memory.wf (m : Memory) : Prop := m.Pairwise (fun a b => a.1 < b.1)

/-- The state. Register names and widths: 10_state.md R20 to R48. -/
structure State where
  /-- The configuration, R20. -/
  cfg : Config
  /-- TCNT, R21. -/
  tcnt : TimerWord
  /-- OVF, R22. -/
  ovf : Bool
  /-- OCR, R23. -/
  ocr : TimerWord
  /-- SAMPLE_EN, R24. -/
  sampleEn : Bool
  /-- EN, R25. -/
  en : Bool
  /-- TXEN, R26. -/
  txen : Bool
  /-- LAST_TICK, R27. -/
  lastTick : TimerWord
  /-- PREV_SMOOTH, R28. -/
  prevSmooth : Half
  /-- LOW_COUNT, R29. -/
  lowCount : Half
  /-- HIGH_COUNT, R30. -/
  highCount : Half
  /-- BWO, R31. -/
  bwo : TimerWord
  /-- FRAME_STATE, R32. -/
  frameState : FrameState
  /-- RX_SHIFT, R33. -/
  rxShift : Byte
  /-- BUF, R34. -/
  buf : Memory
  /-- HEAD, R35. -/
  head : Half
  /-- TAIL, R36. -/
  tail : Half
  /-- TX_BUSY, R38. -/
  txBusy : Bool
  /-- TX_FRAME, R39. -/
  txFrame : BitVec 13
  /-- TX_NBITS, R40. -/
  txNbits : BitVec 4
  /-- TX_IDX, R41. -/
  txIdx : BitVec 4
  /-- TX_HALVES, R42. -/
  txHalves : Half
  /-- TX_WAIT, R43. -/
  txWait : Half
  /-- TX_HALF, R44. -/
  txHalf : Half
  /-- TXOUT, R48. -/
  txout : Bool
  /-- FAULTED, R45. -/
  faulted : Option Fault
  /-- The observation of the last step (the model's own, log entry 9). -/
  out : Output
  /-- The stimuli of the run that are not applied yet, the next one first (the model's own, log entry 5). -/
  stimuli : List Stimulus
  /-- Hardware resets applied since construction (the model's own, log entry 4). -/
  resetCount : Nat
  deriving DecidableEq, Repr

/-- The state of a block of configuration `cfg` right after construction and hardware reset, with the draw
`draw` for TCNT_INIT, taken into [0, M) (10_state.md R50). BUF lists nothing (log entry 4). -/
def State.initial (cfg : Config) (draw : Nat) : State where
  cfg := cfg
  tcnt := BitVec.ofNat 15 (draw % cfg.m)
  ovf := false
  ocr := 0#15
  sampleEn := false
  en := false
  txen := false
  lastTick := 0#15
  prevSmooth := 0#16
  lowCount := 0#16
  highCount := 0#16
  bwo := 0#15
  frameState := .idle
  rxShift := 0#8
  buf := []
  head := 0#16
  tail := 0#16
  txBusy := false
  txFrame := 0#13
  txNbits := 0#4
  txIdx := 0#4
  txHalves := 0#16
  txWait := 0#16
  txHalf := 0#16
  txout := false
  faulted := none
  out := ⟨[], .none⟩
  stimuli := []
  resetCount := 0

/-- The machine right after reset: the reference configuration (00_scope.md R8; log entry 2) with TCNT_INIT 0
(the value of every vector, R5; log entry 3, DESIGN CHOICE, unsafe). -/
def State.reset : State := State.initial Config.reference Params.reference.tcntInit

end Sys2Proof.Machine
end

