-- ==== Sys2Proof/Machine/Ops.lean ====
section
/-! DEFINITION. The shared operations: the observation of a step, raising a fault, holding a host access,
exact modular subtraction, and byte storage. -/

namespace Sys2Proof.Machine

/-! ### Observations (10_state.md R46, 00_scope.md R13) -/

/-- The start of a step: no event yet, no response. -/
def State.quiet (s : State) : State := { s with out := ⟨[], .none⟩ }

/-- `emit E`: append an event to the step's event list (00_scope.md R11). -/
def State.emit (e : Event) (s : State) : State :=
  { s with out := { s.out with events := s.out.events ++ [e] } }

/-- The value a step returns to its agent. -/
def State.respond (r : Response) (s : State) : State := { s with out := { s.out with response := r } }

/-- The code of an event (60_exceptions.md R231). -/
def Event.code : Event → Nat
  | .noiseDiscard _ => 1
  | .classMiss _ _ => 2
  | .falseStart => 3
  | .bufferOverrun _ => 4
  | .notAvailable => 5
  | .startDetect _ => 16
  | .bitSample _ _ => 17
  | .byteReceived _ => 18
  | .txToggle _ => 19

/-! ### Faults (60_exceptions.md R238, R239) -/

/-- The code of a fault (R238). -/
def Fault.code : Fault → Nat
  | .txBeforeBegin => 1
  | .illegalStimulus => 2

/-- `raise Fault(c)`: every register as it was, FAULTED set (R239). The block has no trap entry and no return
from one (R230, R244, R245): this is the whole of it. -/
def State.raise (c : Fault) (s : State) : State := { s with faulted := some c }

/-! ### Host accesses (43_fifo_host.md R187) -/

/-- A host access: HELD and without effect while TX_BUSY = 1, otherwise `act`. -/
def hostAccess (s : State) (act : State → State) : Host.Outcome State Fault Refusal :=
  if s.txBusy then .next (s.quiet.respond .held) else .next (act s.quiet)

/-- A read without a side effect: it returns `v` of the state. -/
def hostRead (s : State) (v : State → Half) : Host.Outcome State Fault Refusal :=
  hostAccess s fun t => t.respond (.value (v t))

/-! ### Arithmetic (00_scope.md R10) -/

/-- `(a - b) mod m` on exact integers: the remainder in [0, m), even when `a - b` is negative. -/
def subMod (a b m : Nat) : Nat := (((a : Int) - (b : Int)) % (m : Int)).toNat

/-! ### Byte storage -/

/-- The byte stored at an address, if any. -/
def Memory.read (m : Memory) (a : Nat) : Option Byte :=
  match m with
  | [] => none
  | (k, b) :: rest => if k = a then some b else Memory.read rest a

/-- Store a byte at an address, keeping the addresses in rising order. -/
def Memory.write (m : Memory) (a : Nat) (b : Byte) : Memory :=
  match m with
  | [] => [(a, b)]
  | (k, c) :: rest =>
    if a < k then (a, b) :: (k, c) :: rest
    else if a = k then (a, b) :: rest
    else (k, c) :: Memory.write rest a b

end Sys2Proof.Machine
end

