-- ==== Sys2Proof/Machine/Operands.lean ====
section
/-! DEFINITION. The images of the host registers (10_state.md R51 to R58), the constants of a tone
(44_modulator.md R214) and the transmit frame of a byte (R212). -/

namespace Sys2Proof.Machine

/-- The code of a frame state (10_state.md R32). -/
def FrameState.code : FrameState → BitVec 4
  | .idle => 0#4
  | .start => 1#4
  | .data i => BitVec.ofNat 4 (2 + i.val)
  | .parity => 10#4
  | .stop => 11#4

/-- One bit as a 16-bit value. -/
def bitHalf (b : Bool) : Half := (BitVec.ofBool b).setWidth 16

/-- CTRL: EN in bit 0 (R51). -/
def ctrlImage (s : State) : Half := bitHalf s.en

/-- STATUS (R52, 43_fifo_host.md R189). -/
def statusImage (s : State) : Half :=
  bitHalf s.en ||| (bitHalf s.sampleEn <<< 1) ||| (bitHalf s.txBusy <<< 2) ||| (bitHalf s.ovf <<< 3) |||
    (bitHalf s.txen <<< 4) ||| (bitHalf s.txout <<< 5) ||| (s.frameState.code.setWidth 16 <<< 8)

/-- The count of stored bytes, `(TAIL - HEAD) mod DEPTH` (43_fifo_host.md R182). -/
def fifoCount (s : State) : Nat := subMod s.tail.toNat s.head.toNat s.cfg.depth

/-- AVAIL (R53, 43_fifo_host.md R190). -/
def availImage (s : State) : Half := BitVec.ofNat 16 (fifoCount s)

/-- RXDATA for the result of a pop: VALID in bit 8 and the byte, or 0x0000 for none (R54, 43_fifo_host.md R191). -/
def rxdataImage : Option Byte → Half
  | some b => 0x0100#16 ||| b.setWidth 16
  | none => 0x0000#16

/-- A timer register zero-extended (R57). -/
def timerImage (t : TimerWord) : Half := t.setWidth 16

/-- RXSHIFT (R57). -/
def rxShiftImage (s : State) : Half := s.rxShift.setWidth 16

/-- NOM(x): the nominal half-period of the tone of bit x (44_modulator.md R214). -/
def toneNom (c : Config) (x : Bool) : Nat := if x then c.highNom else c.lowNom

/-- CYC(x): the cycles of the tone of bit x in one bit (44_modulator.md R214). -/
def toneCyc (c : Config) (x : Bool) : Nat := if x then c.highCyc else c.lowCyc

/-- The parity bit of a byte: popcount mod 2 (44_modulator.md R212). -/
def parityBit (b : Byte) : Bool :=
  b.getLsbD 0 ^^ b.getLsbD 1 ^^ b.getLsbD 2 ^^ b.getLsbD 3 ^^
    b.getLsbD 4 ^^ b.getLsbD 5 ^^ b.getLsbD 6 ^^ b.getLsbD 7

/-- `Frame(b)`: carrier 1, start 0, data, parity, stop 1, guard 1, from bit 0 up (44_modulator.md R212). -/
def frameOf (b : Byte) : BitVec 13 :=
  1#13 ||| (b.setWidth 13 <<< 2) ||| ((BitVec.ofBool (parityBit b)).setWidth 13 <<< 10) |||
    (1#13 <<< 11) ||| (1#13 <<< 12)

end Sys2Proof.Machine
end

