-- ==== Sys2Proof/Machine/Flags.lean ====
section
/-! DEFINITION. The conditions and flags the rules compute: the timer wrap (40_timer.md R102), the compare
match (R103), the FIFO conditions (10_state.md R37), the raw and smoothed interval and its class
(41_classifier.md R121 to R127), the start gate (R128, R130), the bit decision (42_frame.md R152). -/

namespace Sys2Proof.Machine

/-- The timer count after one TICK, `(TCNT + 1) mod M` (40_timer.md R101). -/
def nextCount (s : State) : Nat := (s.tcnt.toNat + 1) % s.cfg.m

/-- OVF after one TICK: set on the wrap to 0, kept otherwise (R102). -/
def overflowAfterTick (s : State) : Bool := s.ovf || nextCount s == 0

/-- The compare match, with TCNT already advanced (R103). -/
def compareMatch (s : State) : Bool := s.sampleEn && s.tcnt == s.ocr

/-- The next FIFO index, modulo DEPTH (43_fifo_host.md R180, R181). -/
def nextIndex (c : Config) (i : Half) : Half := BitVec.ofNat 16 ((i.toNat + 1) % c.depth)

/-- Empty iff HEAD = TAIL (10_state.md R37). -/
def fifoEmpty (s : State) : Bool := s.head == s.tail

/-- Full iff (TAIL + 1) mod DEPTH = HEAD (10_state.md R37). -/
def fifoFull (s : State) : Bool := (s.tail.toNat + 1) % s.cfg.depth == s.head.toNat

/-- The raw interval (41_classifier.md R121). Exact: LAST_TICK is below M. -/
def rawInterval (s : State) : Nat :=
  if s.ovf then s.cfg.m - s.lastTick.toNat + s.tcnt.toNat
  else subMod s.tcnt.toNat s.lastTick.toNat s.cfg.m

/-- The smoothed interval, computed exactly and held as u16 (41_classifier.md R124). -/
def smoothed (raw : Nat) (prev : Half) : Half :=
  BitVec.ofNat 16 ((raw >>> 1) + (raw >>> 2) + (prev.toNat >>> 2))

/-- The tone of an interval, if any. -/
inductive ToneClass where
  | high
  | low
  | miss
  deriving DecidableEq, Repr

/-- Classification: closed bands, the High band first (41_classifier.md R125 to R127). -/
def classify (c : Config) (s : Half) : ToneClass :=
  if c.highLo ≤ s.toNat ∧ s.toNat ≤ c.highHi then .high
  else if c.lowLo ≤ s.toNat ∧ s.toNat ≤ c.lowHi then .low
  else .miss

/-- The start gate: open in Idle when LOW_COUNT has reached START_TH (41_classifier.md R128). -/
def gateOpens (s : State) : Bool :=
  s.frameState == .idle && decide (s.cfg.startTh ≤ s.lowCount.toNat)

/-- `FirstTarget(t)` at the current TCNT and LOW_COUNT (41_classifier.md R130). -/
def firstTarget (s : State) : TimerWord :=
  match s.cfg.startAlign with
  | .compensated => BitVec.ofNat 15 (subMod (s.tcnt.toNat + s.cfg.bitTicks) s.lowCount.toNat s.cfg.m)
  | .now => BitVec.ofNat 15 ((s.tcnt.toNat + s.cfg.bitTicks) % s.cfg.m)

/-- The compare target one bit period on, `(OCR + BIT_TICKS) mod M` (42_frame.md R151). -/
def nextTarget (s : State) : TimerWord := BitVec.ofNat 15 ((s.ocr.toNat + s.cfg.bitTicks) % s.cfg.m)

/-- The bit decision: 1 exactly when HIGH_COUNT > LOW_COUNT, so a tie is 0 (42_frame.md R152). -/
def decideBit (s : State) : Bool := decide (s.lowCount.toNat < s.highCount.toNat)

/-- A bit shifted into the byte at bit 7: `(bit << 7) | (RX_SHIFT >> 1)` (42_frame.md R157). -/
def shiftIn (bit : Bool) (r : Byte) : Byte := ((BitVec.ofBool bit).setWidth 8 <<< 7) ||| (r >>> 1)

end Sys2Proof.Machine
end

