-- ==== Sys2Proof/Machine/Classifier.lean ====
section
/-! DEFINITION. The edge event classifier: EDGE (41_classifier.md R120 to R135). -/

namespace Sys2Proof.Machine

/-- An accepted crossing: the new origin, OVF consumed, the filter updated (R123, R124). -/
def acceptCrossing (raw : Nat) (s : State) : State :=
  { s with lastTick := s.tcnt, ovf := false, prevSmooth := smoothed raw s.prevSmooth }

/-- Discrimination and accumulation of the smoothed interval now in PREV_SMOOTH (R126, R127). -/
def accumulate (raw : Nat) (s : State) : State :=
  match classify s.cfg s.prevSmooth with
  | .high => { s with highCount := s.highCount + s.prevSmooth }
  | .low => { s with lowCount := s.lowCount + s.prevSmooth }
  | .miss => s.emit (.classMiss (BitVec.ofNat 16 raw) s.prevSmooth)

/-- The start gate (R128 to R130). LOW_COUNT is not reset. -/
def startGate (s : State) : State :=
  if gateOpens s then
    State.emit (.startDetect s.lowCount)
      { s with
        frameState := .start
        highCount := 0#16
        bwo := s.tcnt
        rxShift := 0#8
        ocr := firstTarget s
        sampleEn := true }
  else s

/-- EDGE (R120). -/
def edge (s : State) : State :=
  if s.en then
    let raw := rawInterval s
    if raw < s.cfg.noiseFloor then s.emit (.noiseDiscard (BitVec.ofNat 16 raw))
    else startGate (accumulate raw (acceptCrossing raw s))
  else s

/-- EDGE. -/
def execEdge (s : State) : Host.Outcome State Fault Refusal := .next (edge s.quiet)

end Sys2Proof.Machine
end

