-- ==== Sys2Proof/Machine/Fifo.lean ====
section
/-! DEFINITION. The receive FIFO's two primitives (43_fifo_host.md R180, R181). -/

namespace Sys2Proof.Machine

/-- FifoPush(v) (R180): a full FIFO drops the byte. -/
def fifoPush (v : Byte) (s : State) : State :=
  if fifoFull s then s.emit (.bufferOverrun v)
  else
    State.emit (.byteReceived v)
      { s with buf := s.buf.write s.tail.toNat v, tail := nextIndex s.cfg s.tail }

/-- The byte of a FIFO slot: what the last push stored there, or a free value where no push since the last
hardware reset has written it (10_state.md R34; log entry 4). -/
def slotByte (s : State) (i : Nat) : Byte :=
  (s.buf.read i).getD (Config.unwrittenSlot s.resetCount i)

/-- The result of FifoPop() (R181). -/
def popResult (s : State) : Option Byte := if fifoEmpty s then none else some (slotByte s s.head.toNat)

/-- The effect of FifoPop() (R181). -/
def fifoPop (s : State) : State :=
  if fifoEmpty s then s.emit .notAvailable else { s with head := nextIndex s.cfg s.head }

/-- FifoPush on its own. -/
def execFifoPush (v : Byte) (s : State) : Host.Outcome State Fault Refusal := .next (fifoPush v s.quiet)

/-- FifoPop on its own; it returns the byte or none. -/
def execFifoPop (s : State) : Host.Outcome State Fault Refusal :=
  .next ((fifoPop s.quiet).respond (.popped (popResult s)))

end Sys2Proof.Machine
end

