-- ==== Sys2Proof/Machine/HostRead.lean ====
section
/-! DEFINITION. The host's register reads (43_fifo_host.md R188 to R194). Each first passes R187 (`hostAccess`).
Only RD RXDATA has a side effect (20_memory.md R65). -/

namespace Sys2Proof.Machine

/-- RD CTRL (R188). -/
def execRdCtrl (s : State) : Host.Outcome State Fault Refusal := hostRead s ctrlImage

/-- RD STATUS (R189). -/
def execRdStatus (s : State) : Host.Outcome State Fault Refusal := hostRead s statusImage

/-- RD AVAIL (R190). -/
def execRdAvail (s : State) : Host.Outcome State Fault Refusal := hostRead s availImage

/-- RD RXDATA (R191): FifoPop, and the popped byte with VALID or 0x0000. -/
def execRdRxdata (s : State) : Host.Outcome State Fault Refusal :=
  hostAccess s fun t => (fifoPop t).respond (.value (rxdataImage (popResult t)))

/-- RD TXDATA, write-only (R192). -/
def execRdTxdata (s : State) : Host.Outcome State Fault Refusal := hostRead s (fun _ => 0#16)

/-- RD TXBIT, write-only (R192). -/
def execRdTxbit (s : State) : Host.Outcome State Fault Refusal := hostRead s (fun _ => 0#16)

/-- RD LOWCNT (R193). -/
def execRdLowcnt (s : State) : Host.Outcome State Fault Refusal := hostRead s (fun t => t.lowCount)

/-- RD HIGHCNT (R193). -/
def execRdHighcnt (s : State) : Host.Outcome State Fault Refusal := hostRead s (fun t => t.highCount)

/-- RD TCNT (R193). -/
def execRdTcnt (s : State) : Host.Outcome State Fault Refusal := hostRead s (fun t => timerImage t.tcnt)

/-- RD OCR (R193). -/
def execRdOcr (s : State) : Host.Outcome State Fault Refusal := hostRead s (fun t => timerImage t.ocr)

/-- RD LASTTICK (R193). -/
def execRdLasttick (s : State) : Host.Outcome State Fault Refusal := hostRead s (fun t => timerImage t.lastTick)

/-- RD PREVSM (R193). -/
def execRdPrevsm (s : State) : Host.Outcome State Fault Refusal := hostRead s (fun t => t.prevSmooth)

/-- RD RXSHIFT (R193). -/
def execRdRxshift (s : State) : Host.Outcome State Fault Refusal := hostRead s rxShiftImage

/-- RD BWO (R193). -/
def execRdBwo (s : State) : Host.Outcome State Fault Refusal := hostRead s (fun t => timerImage t.bwo)

/-- RD reserved 0xE (R194). -/
def execRdReserved14 (s : State) : Host.Outcome State Fault Refusal := hostRead s (fun _ => 0#16)

/-- RD reserved 0xF (R194). -/
def execRdReserved15 (s : State) : Host.Outcome State Fault Refusal := hostRead s (fun _ => 0#16)

end Sys2Proof.Machine
end

