-- ==== Sys2Proof/Machine/HostWrite.lean ====
section
/-! DEFINITION. The host's writes to the read-only registers and to the reserved addresses: ignored
(43_fifo_host.md R198), after R187 (`hostAccess`). -/

namespace Sys2Proof.Machine

/-- A write that is ignored: no state, no event, no fault (R198). -/
def ignoreWrite (_data : Half) (s : State) : State := s

/-- WR STATUS. -/
def execWrStatus (data : Half) (s : State) : Host.Outcome State Fault Refusal := hostAccess s (ignoreWrite data)

/-- WR AVAIL. -/
def execWrAvail (data : Half) (s : State) : Host.Outcome State Fault Refusal := hostAccess s (ignoreWrite data)

/-- WR RXDATA. -/
def execWrRxdata (data : Half) (s : State) : Host.Outcome State Fault Refusal := hostAccess s (ignoreWrite data)

/-- WR LOWCNT. -/
def execWrLowcnt (data : Half) (s : State) : Host.Outcome State Fault Refusal := hostAccess s (ignoreWrite data)

/-- WR HIGHCNT. -/
def execWrHighcnt (data : Half) (s : State) : Host.Outcome State Fault Refusal := hostAccess s (ignoreWrite data)

/-- WR TCNT. -/
def execWrTcnt (data : Half) (s : State) : Host.Outcome State Fault Refusal := hostAccess s (ignoreWrite data)

/-- WR OCR. -/
def execWrOcr (data : Half) (s : State) : Host.Outcome State Fault Refusal := hostAccess s (ignoreWrite data)

/-- WR LASTTICK. -/
def execWrLasttick (data : Half) (s : State) : Host.Outcome State Fault Refusal := hostAccess s (ignoreWrite data)

/-- WR PREVSM. -/
def execWrPrevsm (data : Half) (s : State) : Host.Outcome State Fault Refusal := hostAccess s (ignoreWrite data)

/-- WR RXSHIFT. -/
def execWrRxshift (data : Half) (s : State) : Host.Outcome State Fault Refusal := hostAccess s (ignoreWrite data)

/-- WR BWO. -/
def execWrBwo (data : Half) (s : State) : Host.Outcome State Fault Refusal := hostAccess s (ignoreWrite data)

/-- WR the reserved address 0xE. -/
def execWrReserved14 (data : Half) (s : State) : Host.Outcome State Fault Refusal := hostAccess s (ignoreWrite data)

/-- WR the reserved address 0xF. -/
def execWrReserved15 (data : Half) (s : State) : Host.Outcome State Fault Refusal := hostAccess s (ignoreWrite data)

end Sys2Proof.Machine
end

