-- ==== Sys2Proof/Machine/Illegal.lean ====
section
/-! DEFINITION. The illegal stimulus (30_encoding.md R89). -/

namespace Sys2Proof.Machine

/-- A word outside the alphabet raises ILLEGAL_STIMULUS; nothing else changes (R89). It is not a host access,
so TX_BUSY does not hold it (43_fifo_host.md R187 speaks of an RD or WR). -/
def execIllegal (_word : StimulusWord) (s : State) : Host.Outcome State Fault Refusal :=
  .next (s.quiet.raise .illegalStimulus)

end Sys2Proof.Machine
end

