-- ==== Sys2Proof/Machine/Lifecycle.lean ====
section
/-! DEFINITION. The lifecycle: BEGIN and END (43_fifo_host.md R183, R184, R195, R200) and hardware reset
(70_reset_and_hazards.md R260). -/

namespace Sys2Proof.Machine

/-- BEGIN (R183). -/
def beginOp (s : State) : State :=
  { s with
    txen := true
    en := true
    lastTick := s.tcnt
    ovf := false
    prevSmooth := 0#16
    lowCount := 0#16
    highCount := 0#16
    frameState := .idle
    rxShift := 0#8
    sampleEn := false }

/-- END (R184). -/
def endOp (s : State) : State := { s with en := false, sampleEn := false }

/-- WR CTRL with DATA[0] = 1 (R195). -/
def execWrCtrlBegin (_ignored : BitVec 15) (s : State) : Host.Outcome State Fault Refusal :=
  hostAccess s beginOp

/-- WR CTRL with DATA[0] = 0 (R195). -/
def execWrCtrlEnd (_ignored : BitVec 15) (s : State) : Host.Outcome State Fault Refusal :=
  hostAccess s endOp

/-- Hardware reset with the draw `draw` for TCNT_INIT (R260): every register at the value of 10_state.md R50.
The configuration, FAULTED and the stimuli still to come are kept; BUF's contents become unspecified again. -/
def hardReset (s : State) (draw : Nat) : State :=
  { State.initial s.cfg draw with
    faulted := s.faulted
    stimuli := s.stimuli
    resetCount := s.resetCount + 1 }

end Sys2Proof.Machine
end

