-- ==== Sys2Proof/Machine/Frame.lean ====
section
/-! DEFINITION. The frame state machine and byte reconstructor: SAMPLE (42_frame.md R150 to R164). -/

namespace Sys2Proof.Machine

/-- ResetDecided(bit) (R161, R162): the counter of the bit just decided, or both with SYM_RESET = 1. -/
def resetDecided (bit : Bool) (s : State) : State :=
  if s.cfg.symReset then { s with lowCount := 0#16, highCount := 0#16 }
  else if bit then { s with highCount := 0#16 }
  else { s with lowCount := 0#16 }

/-- The state after Data_i: the next data state, or Parity after Data7 (R158). -/
def afterData (i : Fin 8) : FrameState := if i.val < 7 then .data (i + 1) else .parity

/-- The transition of SAMPLE for a decided bit (R153, R155 to R160, R164). -/
def frameTransition (bit : Bool) (s : State) : State :=
  match s.frameState with
  | .idle => s
  | .start =>
    if bit then State.emit .falseStart { s with frameState := .idle }
    else resetDecided bit { s with frameState := .data 0 }
  | .data i => resetDecided bit { s with rxShift := shiftIn bit s.rxShift, frameState := afterData i }
  | .parity => resetDecided bit { s with frameState := .stop }
  | .stop => { fifoPush s.rxShift s with frameState := .idle, sampleEn := false }

/-- SAMPLE (R150): reschedule (R151), decide (R152), then the transition. -/
def sample (s : State) : State :=
  let bit := decideBit s
  frameTransition bit (State.emit (.bitSample s.frameState bit) { s with ocr := nextTarget s })

/-- SAMPLE on its own. -/
def execSample (s : State) : Host.Outcome State Fault Refusal := .next (sample s.quiet)

end Sys2Proof.Machine
end

