-- ==== Sys2Proof/Machine/Modulator.lean ====
section
/-! DEFINITION. The modulator: LoadBit, TXSTEP, writeByte and emitBit (44_modulator.md R210 to R215). -/

namespace Sys2Proof.Machine

/-- `LoadBit(x)` (R214). -/
def loadBit (x : Bool) (s : State) : State :=
  { s with
    txHalf := BitVec.ofNat 16 (toneNom s.cfg x)
    txHalves := BitVec.ofNat 16 (2 * toneCyc s.cfg x)
    txWait := 0#16 }

/-- The first part of TXSTEP: a half-cycle that starts now toggles the line (R213). -/
def txToggle (s : State) : State :=
  if s.txWait = 0#16 then
    State.emit (.txToggle (!s.txout))
      { s with txout := !s.txout, txHalves := s.txHalves - 1#16, txWait := s.txHalf }
  else s

/-- The end of the current bit: the next bit is loaded, or the transmission ends (R213). -/
def txAdvance (s : State) : State :=
  let s' := { s with txIdx := s.txIdx + 1#4 }
  if s'.txIdx.toNat < s'.txNbits.toNat then loadBit (s'.txFrame.getLsbD s'.txIdx.toNat) s'
  else { s' with txBusy := false }

/-- TXSTEP (R213). -/
def txStep (s : State) : State :=
  let t := txToggle s
  let u := { t with txWait := t.txWait - 1#16 }
  if u.txWait = 0#16 ∧ u.txHalves = 0#16 then txAdvance u else u

/-- The start of a transmission of the low `n` bits of `f` (R210, R211). -/
def startTransmission (f : BitVec 13) (n : BitVec 4) (s : State) : State :=
  loadBit (f.getLsbD 0) { s with txFrame := f, txNbits := n, txIdx := 0#4, txBusy := true }

/-- A write of TXDATA or TXBIT that is not held: ignored without a modulator (43_fifo_host.md R186), a fault
before the first BEGIN (R215), otherwise the start of a transmission. -/
def transmitWrite (f : BitVec 13) (n : BitVec 4) (s : State) : State :=
  if s.cfg.hasModulator then
    if s.txen then startTransmission f n s else s.raise .txBeforeBegin
  else s

/-- WR TXDATA, writeByte (R210). -/
def execWrTxdata (_ignored : BitVec 8) (byte : Byte) (s : State) : Host.Outcome State Fault Refusal :=
  hostAccess s (transmitWrite (frameOf byte) 13#4)

/-- WR TXBIT, emitBit (R211). -/
def execWrTxbit (_ignored : BitVec 15) (bit : BitVec 1) (s : State) : Host.Outcome State Fault Refusal :=
  hostAccess s (transmitWrite (bit.setWidth 13) 1#4)

/-- TXSTEP on its own. -/
def execTxstep (s : State) : Host.Outcome State Fault Refusal := .next (txStep s.quiet)

end Sys2Proof.Machine
end

