-- ==== Sys2Proof/Machine/Timer.lean ====
section
/-! DEFINITION. The interval timer: TICK (40_timer.md R100 to R105). -/

namespace Sys2Proof.Machine

/-- The count and the overflow flag (R101, R102). -/
def countTick (s : State) : State :=
  { s with tcnt := BitVec.ofNat 15 (nextCount s), ovf := overflowAfterTick s }

/-- TICK (R100), in the order of R104: count, overflow, the sample at a match, the modulator step. -/
def tick (s : State) : State :=
  let s := countTick s
  let s := if compareMatch s then sample s else s
  if s.txBusy then txStep s else s

/-- TICK. -/
def execTick (s : State) : Host.Outcome State Fault Refusal := .next (tick s.quiet)

end Sys2Proof.Machine
end

