-- ==== Sys2Proof/Syntax.lean ====
section
/-! DEFINITION. The instruction set: one constructor per row of spec/opcode_table.json, that is the
stimulus words of 30_encoding.md R91, the class of illegal words (R89), and the four internal actions
that the table lists without a word. The bits of DATA that a register ignores (R87) are operands too, so
that no bit of a word is lost (log entry 11, DESIGN CHOICE, safe). -/

namespace Sys2Proof

inductive Instr where
  /-- TICK: one timer count (30_encoding.md R83). -/
  | tick
  /-- EDGE: one threshold crossing (R84). -/
  | edge
  | rdCtrl
  | rdStatus
  | rdAvail
  | rdRxdata
  | rdTxdata
  | rdTxbit
  | rdLowcnt
  | rdHighcnt
  | rdTcnt
  | rdOcr
  | rdLasttick
  | rdPrevsm
  | rdRxshift
  | rdBwo
  /-- RD of the reserved address 0xE. -/
  | rdReserved14
  /-- RD of the reserved address 0xF. -/
  | rdReserved15
  /-- WR CTRL with DATA[0] = 1: BEGIN (R195); `ignored` is DATA[15:1]. -/
  | wrCtrlBegin (ignored : BitVec 15)
  /-- WR CTRL with DATA[0] = 0: END (R195); `ignored` is DATA[15:1]. -/
  | wrCtrlEnd (ignored : BitVec 15)
  /-- WR TXDATA: writeByte of `byte` = DATA[7:0] (R196); `ignored` is DATA[15:8]. -/
  | wrTxdata (ignored : BitVec 8) (byte : Byte)
  /-- WR TXBIT: emitBit of `bit` = DATA[0] (R197); `ignored` is DATA[15:1]. -/
  | wrTxbit (ignored : BitVec 15) (bit : BitVec 1)
  | wrStatus (data : Half)
  | wrAvail (data : Half)
  | wrRxdata (data : Half)
  | wrLowcnt (data : Half)
  | wrHighcnt (data : Half)
  | wrTcnt (data : Half)
  | wrOcr (data : Half)
  | wrLasttick (data : Half)
  | wrPrevsm (data : Half)
  | wrRxshift (data : Half)
  | wrBwo (data : Half)
  /-- WR of the reserved address 0xE. -/
  | wrReserved14 (data : Half)
  /-- WR of the reserved address 0xF. -/
  | wrReserved15 (data : Half)
  /-- A word outside the stimulus alphabet (R89); `word` is the word itself. -/
  | illegal (word : StimulusWord)
  /-- The bit sample, fired by TICK (42_frame.md R150); no word. -/
  | sample
  /-- One tick of the tone generator, performed by TICK (44_modulator.md R213); no word. -/
  | txstep
  /-- The FIFO push of a byte, called by the Stop sample (43_fifo_host.md R180); no word. -/
  | fifoPush (v : Byte)
  /-- The FIFO pop, called by RD RXDATA (43_fifo_host.md R181); no word. -/
  | fifoPop
  deriving DecidableEq, Repr

end Sys2Proof
end

