-- ==== Sys2Proof/Machine/Dispatch.lean ====
section
/-! DEFINITION. One arm per instruction. -/

namespace Sys2Proof.Machine

def exec (i : Instr) (s : State) : Host.Outcome State Fault Refusal :=
  match i with
  | .tick => Sys2Proof.Machine.execTick s
  | .edge => Sys2Proof.Machine.execEdge s
  | .rdCtrl => Sys2Proof.Machine.execRdCtrl s
  | .rdStatus => Sys2Proof.Machine.execRdStatus s
  | .rdAvail => Sys2Proof.Machine.execRdAvail s
  | .rdRxdata => Sys2Proof.Machine.execRdRxdata s
  | .rdTxdata => Sys2Proof.Machine.execRdTxdata s
  | .rdTxbit => Sys2Proof.Machine.execRdTxbit s
  | .rdLowcnt => Sys2Proof.Machine.execRdLowcnt s
  | .rdHighcnt => Sys2Proof.Machine.execRdHighcnt s
  | .rdTcnt => Sys2Proof.Machine.execRdTcnt s
  | .rdOcr => Sys2Proof.Machine.execRdOcr s
  | .rdLasttick => Sys2Proof.Machine.execRdLasttick s
  | .rdPrevsm => Sys2Proof.Machine.execRdPrevsm s
  | .rdRxshift => Sys2Proof.Machine.execRdRxshift s
  | .rdBwo => Sys2Proof.Machine.execRdBwo s
  | .rdReserved14 => Sys2Proof.Machine.execRdReserved14 s
  | .rdReserved15 => Sys2Proof.Machine.execRdReserved15 s
  | .wrCtrlBegin ignored => Sys2Proof.Machine.execWrCtrlBegin ignored s
  | .wrCtrlEnd ignored => Sys2Proof.Machine.execWrCtrlEnd ignored s
  | .wrTxdata ignored byte => Sys2Proof.Machine.execWrTxdata ignored byte s
  | .wrTxbit ignored bit => Sys2Proof.Machine.execWrTxbit ignored bit s
  | .wrStatus data => Sys2Proof.Machine.execWrStatus data s
  | .wrAvail data => Sys2Proof.Machine.execWrAvail data s
  | .wrRxdata data => Sys2Proof.Machine.execWrRxdata data s
  | .wrLowcnt data => Sys2Proof.Machine.execWrLowcnt data s
  | .wrHighcnt data => Sys2Proof.Machine.execWrHighcnt data s
  | .wrTcnt data => Sys2Proof.Machine.execWrTcnt data s
  | .wrOcr data => Sys2Proof.Machine.execWrOcr data s
  | .wrLasttick data => Sys2Proof.Machine.execWrLasttick data s
  | .wrPrevsm data => Sys2Proof.Machine.execWrPrevsm data s
  | .wrRxshift data => Sys2Proof.Machine.execWrRxshift data s
  | .wrBwo data => Sys2Proof.Machine.execWrBwo data s
  | .wrReserved14 data => Sys2Proof.Machine.execWrReserved14 data s
  | .wrReserved15 data => Sys2Proof.Machine.execWrReserved15 data s
  | .illegal w => Sys2Proof.Machine.execIllegal w s
  | .sample => Sys2Proof.Machine.execSample s
  | .txstep => Sys2Proof.Machine.execTxstep s
  | .fifoPush v => Sys2Proof.Machine.execFifoPush v s
  | .fifoPop => Sys2Proof.Machine.execFifoPop s

end Sys2Proof.Machine
end

