-- ==== Sys2Proof/WellFormed.lean ====
section
/-! DEFINITION. Which words are in the stimulus alphabet (30_encoding.md R80, R82), which instructions
have a word at all (R91), and when an instruction is well formed. The legality test is written from R82
and not from the decoder, so that the decoder can be compared with it. -/

namespace Sys2Proof

/-- The word obeys 30_encoding.md R82: RSV is zero; ADDR and DATA are zero in TICK and EDGE words
(KIND 0b00, 0b01); DATA is zero in RD words (KIND 0b10). Masks by the fields of R80. -/
def legalWord (w : StimulusWord) : Bool :=
  w &&& 0x300000#24 == 0#24 &&
    (w &&& 0xC00000#24 == 0xC00000#24 ||
      (w &&& 0xC00000#24 == 0x800000#24 && w &&& 0x00FFFF#24 == 0#24) ||
      w &&& 0x0FFFFF#24 == 0#24)

/-- The instruction is a stimulus with a word; the four internal actions have none (30_encoding.md R91). -/
def Instr.hasWord : Instr → Bool
  | .tick => true
  | .edge => true
  | .rdCtrl => true
  | .rdStatus => true
  | .rdAvail => true
  | .rdRxdata => true
  | .rdTxdata => true
  | .rdTxbit => true
  | .rdLowcnt => true
  | .rdHighcnt => true
  | .rdTcnt => true
  | .rdOcr => true
  | .rdLasttick => true
  | .rdPrevsm => true
  | .rdRxshift => true
  | .rdBwo => true
  | .rdReserved14 => true
  | .rdReserved15 => true
  | .wrCtrlBegin _ => true
  | .wrCtrlEnd _ => true
  | .wrTxdata _ _ => true
  | .wrTxbit _ _ => true
  | .wrStatus _ => true
  | .wrAvail _ => true
  | .wrRxdata _ => true
  | .wrLowcnt _ => true
  | .wrHighcnt _ => true
  | .wrTcnt _ => true
  | .wrOcr _ => true
  | .wrLasttick _ => true
  | .wrPrevsm _ => true
  | .wrRxshift _ => true
  | .wrBwo _ => true
  | .wrReserved14 _ => true
  | .wrReserved15 _ => true
  | .illegal _ => true
  | .sample => false
  | .txstep => false
  | .fifoPush _ => false
  | .fifoPop => false

/-- Every operand's type is the exact range its field admits, so the one check left is that an illegal
instruction carries a word that no legal form takes (30_encoding.md R89). -/
def Instr.wellFormed : Instr → Bool
  | .illegal w => !legalWord w
  | .tick => true
  | .edge => true
  | .rdCtrl => true
  | .rdStatus => true
  | .rdAvail => true
  | .rdRxdata => true
  | .rdTxdata => true
  | .rdTxbit => true
  | .rdLowcnt => true
  | .rdHighcnt => true
  | .rdTcnt => true
  | .rdOcr => true
  | .rdLasttick => true
  | .rdPrevsm => true
  | .rdRxshift => true
  | .rdBwo => true
  | .rdReserved14 => true
  | .rdReserved15 => true
  | .wrCtrlBegin _ => true
  | .wrCtrlEnd _ => true
  | .wrTxdata _ _ => true
  | .wrTxbit _ _ => true
  | .wrStatus _ => true
  | .wrAvail _ => true
  | .wrRxdata _ => true
  | .wrLowcnt _ => true
  | .wrHighcnt _ => true
  | .wrTcnt _ => true
  | .wrOcr _ => true
  | .wrLasttick _ => true
  | .wrPrevsm _ => true
  | .wrRxshift _ => true
  | .wrBwo _ => true
  | .wrReserved14 _ => true
  | .wrReserved15 _ => true
  | .sample => true
  | .txstep => true
  | .fifoPush _ => true
  | .fifoPop => true

end Sys2Proof
end

