-- ==== Sys2Proof/Decode.lean ====
section
/-! DEFINITION. The decoder (30_encoding.md R88), total on every 24-bit word, and the encoder (R83 to
R86). The bit fields of a word are taken here and nowhere else. -/

namespace Sys2Proof

/-! ### The fields of a word (30_encoding.md R80) -/

/-- KIND, bits 23:22. -/
def kindField (w : StimulusWord) : BitVec 2 := w.extractLsb' 22 2

/-- RSV, bits 21:20. -/
def rsvField (w : StimulusWord) : BitVec 2 := w.extractLsb' 20 2

/-- ADDR, bits 19:16. -/
def addrField (w : StimulusWord) : BitVec 4 := w.extractLsb' 16 4

/-- DATA, bits 15:0. -/
def dataField (w : StimulusWord) : Half := w.extractLsb' 0 16

/-- DATA[15:1], which WR CTRL and WR TXBIT ignore (30_encoding.md R87). -/
def dataHigh15 (d : Half) : BitVec 15 := d.extractLsb' 1 15

/-- DATA[0], the EN of WR CTRL and the bit of WR TXBIT (R87). -/
def dataBit0 (d : Half) : BitVec 1 := d.extractLsb' 0 1

/-- DATA[15:8], which WR TXDATA ignores (R87). -/
def dataHighByte (d : Half) : BitVec 8 := d.extractLsb' 8 8

/-- DATA[7:0], the byte of WR TXDATA (R87). -/
def dataLowByte (d : Half) : Byte := d.extractLsb' 0 8

/-! ### Decoding -/

/-- The read of a host register by its address (20_memory.md R61). -/
def decodeRead (a : BitVec 4) : Instr :=
  match a.toNat with
  | 0 => .rdCtrl
  | 1 => .rdStatus
  | 2 => .rdAvail
  | 3 => .rdRxdata
  | 4 => .rdTxdata
  | 5 => .rdTxbit
  | 6 => .rdLowcnt
  | 7 => .rdHighcnt
  | 8 => .rdTcnt
  | 9 => .rdOcr
  | 10 => .rdLasttick
  | 11 => .rdPrevsm
  | 12 => .rdRxshift
  | 13 => .rdBwo
  | 14 => .rdReserved14
  | _ => .rdReserved15

/-- The write of a host register by its address (20_memory.md R61); WR CTRL splits on DATA[0]
(43_fifo_host.md R195). -/
def decodeWrite (a : BitVec 4) (d : Half) : Instr :=
  match a.toNat with
  | 0 => if dataBit0 d = 1#1 then .wrCtrlBegin (dataHigh15 d) else .wrCtrlEnd (dataHigh15 d)
  | 1 => .wrStatus d
  | 2 => .wrAvail d
  | 3 => .wrRxdata d
  | 4 => .wrTxdata (dataHighByte d) (dataLowByte d)
  | 5 => .wrTxbit (dataHigh15 d) (dataBit0 d)
  | 6 => .wrLowcnt d
  | 7 => .wrHighcnt d
  | 8 => .wrTcnt d
  | 9 => .wrOcr d
  | 10 => .wrLasttick d
  | 11 => .wrPrevsm d
  | 12 => .wrRxshift d
  | 13 => .wrBwo d
  | 14 => .wrReserved14 d
  | _ => .wrReserved15 d

/-- The decoder of 30_encoding.md R88. Rejecting a word is itself an answer: `illegal` of the word. -/
def decode (w : StimulusWord) : Instr :=
  if rsvField w ≠ 0#2 then .illegal w
  else if kindField w = 0b00#2 then
    if addrField w = 0#4 ∧ dataField w = 0#16 then .tick else .illegal w
  else if kindField w = 0b01#2 then
    if addrField w = 0#4 ∧ dataField w = 0#16 then .edge else .illegal w
  else if kindField w = 0b10#2 then
    if dataField w = 0#16 then decodeRead (addrField w) else .illegal w
  else decodeWrite (addrField w) (dataField w)

/-- The instruction that the decoder reads from the low `nbits` bits of `w`, bit 0 the least significant
bit of the one 24-bit word (30_encoding.md R90: a stimulus is always exactly one word). -/
def decodeTableWord (nbits w : Nat) : Option Instr :=
  if nbits ≤ 24 then some (decode (BitVec.ofNat 24 (w % 2 ^ nbits))) else none

/-! ### Encoding -/

/-- The word of a register read (30_encoding.md R85). -/
def readWord (a : BitVec 4) : StimulusWord := 0x800000#24 ||| (a.setWidth 24 <<< 16)

/-- The word of a register write (30_encoding.md R86). -/
def writeWord (a : BitVec 4) (d : Half) : StimulusWord :=
  0xC00000#24 ||| (a.setWidth 24 <<< 16) ||| d.setWidth 24

/-- DATA with its high fifteen bits and its bit 0 given (R87). -/
def dataOfBit (ignored : BitVec 15) (bit : BitVec 1) : Half := (ignored.setWidth 16 <<< 1) ||| bit.setWidth 16

/-- DATA with its high and low byte given (R87). -/
def dataOfByte (ignored : BitVec 8) (byte : Byte) : Half := (ignored.setWidth 16 <<< 8) ||| byte.setWidth 16

/-- The words of an instruction: one word for a stimulus (30_encoding.md R83 to R86), the word itself for an
illegal one, and none for an internal action (R91). -/
def encode : Instr → List StimulusWord
  | .tick => [0x000000#24]
  | .edge => [0x400000#24]
  | .rdCtrl => [readWord 0#4]
  | .rdStatus => [readWord 1#4]
  | .rdAvail => [readWord 2#4]
  | .rdRxdata => [readWord 3#4]
  | .rdTxdata => [readWord 4#4]
  | .rdTxbit => [readWord 5#4]
  | .rdLowcnt => [readWord 6#4]
  | .rdHighcnt => [readWord 7#4]
  | .rdTcnt => [readWord 8#4]
  | .rdOcr => [readWord 9#4]
  | .rdLasttick => [readWord 10#4]
  | .rdPrevsm => [readWord 11#4]
  | .rdRxshift => [readWord 12#4]
  | .rdBwo => [readWord 13#4]
  | .rdReserved14 => [readWord 14#4]
  | .rdReserved15 => [readWord 15#4]
  | .wrCtrlBegin ignored => [writeWord 0#4 (dataOfBit ignored 1#1)]
  | .wrCtrlEnd ignored => [writeWord 0#4 (dataOfBit ignored 0#1)]
  | .wrTxdata ignored byte => [writeWord 4#4 (dataOfByte ignored byte)]
  | .wrTxbit ignored bit => [writeWord 5#4 (dataOfBit ignored bit)]
  | .wrStatus d => [writeWord 1#4 d]
  | .wrAvail d => [writeWord 2#4 d]
  | .wrRxdata d => [writeWord 3#4 d]
  | .wrLowcnt d => [writeWord 6#4 d]
  | .wrHighcnt d => [writeWord 7#4 d]
  | .wrTcnt d => [writeWord 8#4 d]
  | .wrOcr d => [writeWord 9#4 d]
  | .wrLasttick d => [writeWord 10#4 d]
  | .wrPrevsm d => [writeWord 11#4 d]
  | .wrRxshift d => [writeWord 12#4 d]
  | .wrBwo d => [writeWord 13#4 d]
  | .wrReserved14 d => [writeWord 14#4 d]
  | .wrReserved15 d => [writeWord 15#4 d]
  | .illegal w => [w]
  | .sample => []
  | .txstep => []
  | .fifoPush _ => []
  | .fifoPop => []

/-! ### The opcode table (spec/opcode_table.json) -/

/-- One row of the opcode table: the bits a word must show under a mask. -/
structure OpcodeRow where
  pattern : StimulusWord
  mask : StimulusWord
  deriving DecidableEq, Repr

/-- The word shows the row's pattern. -/
def OpcodeRow.covers (r : OpcodeRow) (w : StimulusWord) : Bool := w &&& r.mask == r.pattern

/-- The rows of TICK and EDGE. -/
def environmentRows : List OpcodeRow :=
  [⟨0x000000#24, 0xFFFFFF#24⟩, ⟨0x400000#24, 0xFFFFFF#24⟩]

/-- The sixteen RD rows. -/
def readRows : List OpcodeRow :=
  [⟨0x800000#24, 0xFFFFFF#24⟩, ⟨0x810000#24, 0xFFFFFF#24⟩, ⟨0x820000#24, 0xFFFFFF#24⟩,
   ⟨0x830000#24, 0xFFFFFF#24⟩, ⟨0x840000#24, 0xFFFFFF#24⟩, ⟨0x850000#24, 0xFFFFFF#24⟩,
   ⟨0x860000#24, 0xFFFFFF#24⟩, ⟨0x870000#24, 0xFFFFFF#24⟩, ⟨0x880000#24, 0xFFFFFF#24⟩,
   ⟨0x890000#24, 0xFFFFFF#24⟩, ⟨0x8A0000#24, 0xFFFFFF#24⟩, ⟨0x8B0000#24, 0xFFFFFF#24⟩,
   ⟨0x8C0000#24, 0xFFFFFF#24⟩, ⟨0x8D0000#24, 0xFFFFFF#24⟩, ⟨0x8E0000#24, 0xFFFFFF#24⟩,
   ⟨0x8F0000#24, 0xFFFFFF#24⟩]

/-- The seventeen WR rows: WR CTRL twice, by DATA[0]. -/
def writeRows : List OpcodeRow :=
  [⟨0xC00001#24, 0xFF0001#24⟩, ⟨0xC00000#24, 0xFF0001#24⟩, ⟨0xC40000#24, 0xFF0000#24⟩,
   ⟨0xC50000#24, 0xFF0000#24⟩, ⟨0xC10000#24, 0xFF0000#24⟩, ⟨0xC20000#24, 0xFF0000#24⟩,
   ⟨0xC30000#24, 0xFF0000#24⟩, ⟨0xC60000#24, 0xFF0000#24⟩, ⟨0xC70000#24, 0xFF0000#24⟩,
   ⟨0xC80000#24, 0xFF0000#24⟩, ⟨0xC90000#24, 0xFF0000#24⟩, ⟨0xCA0000#24, 0xFF0000#24⟩,
   ⟨0xCB0000#24, 0xFF0000#24⟩, ⟨0xCC0000#24, 0xFF0000#24⟩, ⟨0xCD0000#24, 0xFF0000#24⟩,
   ⟨0xCE0000#24, 0xFF0000#24⟩, ⟨0xCF0000#24, 0xFF0000#24⟩]

/-- Every row of the table that has a pattern, in the table's order. -/
def opcodeRows : List OpcodeRow := environmentRows ++ readRows ++ writeRows

end Sys2Proof
end

