-- ==== Sys2Proof/Machine/Fetch.lean ====
section
/-! DEFINITION. Which stimulus a step applies. The block fetches nothing (20_memory.md R73): the agents present
stimuli, in one total order (R68), and State.stimuli is what they have still to present (log entry 5). -/

namespace Sys2Proof.Machine

/-- The instruction is an RD or a WR, so the host presents it and R187 may hold it (43_fifo_host.md). -/
def isHostAccess : Instr → Bool
  | .rdCtrl => true
  | .rdStatus => true
  | .rdAvail => true
  | .rdRxdata => true
  | .rdTxdata => true
  | .rdTxbit => true
  | .rdLowcnt => true
  | .rdHighcnt => true
  | .rdTcnt => true
  | .rdOcr => true
  | .rdLasttick => true
  | .rdPrevsm => true
  | .rdRxshift => true
  | .rdBwo => true
  | .rdReserved14 => true
  | .rdReserved15 => true
  | .wrCtrlBegin _ => true
  | .wrCtrlEnd _ => true
  | .wrTxdata _ _ => true
  | .wrTxbit _ _ => true
  | .wrStatus _ => true
  | .wrAvail _ => true
  | .wrRxdata _ => true
  | .wrLowcnt _ => true
  | .wrHighcnt _ => true
  | .wrTcnt _ => true
  | .wrOcr _ => true
  | .wrLasttick _ => true
  | .wrPrevsm _ => true
  | .wrRxshift _ => true
  | .wrBwo _ => true
  | .wrReserved14 _ => true
  | .wrReserved15 _ => true
  | .tick => false
  | .edge => false
  | .illegal _ => false
  | .sample => false
  | .txstep => false
  | .fifoPush _ => false
  | .fifoPop => false

/-- The stimulus is a host access; ticks, crossings, illegal words and resets are not. -/
def Stimulus.isHost : Stimulus → Bool
  | .word w => isHostAccess (decode w)
  | .reset _ => false

/-- What follows when the first stimulus is held: it is not consumed, and its agent retries it after a later
step of another agent (00_scope.md R11): the first stimulus that is not a host access goes before the host
accesses ahead of it, whose order stays (log entry 6, DESIGN CHOICE). With none, the host stays held. -/
def deferHost (l : List Stimulus) : List Stimulus :=
  match l.dropWhile Stimulus.isHost with
  | [] => l
  | e :: rest => e :: (l.takeWhile Stimulus.isHost ++ rest)

/-- What a step finds to do. -/
inductive Pending where
  /-- The run is faulted: the fault is reported again (60_exceptions.md R239). -/
  | faulted (c : Fault)
  /-- No stimulus is pending. -/
  | nothing
  /-- A hardware reset, and the state that has taken it off the list. -/
  | reset (draw : Nat) (s : State)
  /-- An instruction, and the state that has taken its word off the list, or kept it there when held. -/
  | run (i : Instr) (s : State)
  deriving DecidableEq, Repr

/-- The next stimulus, decoded. -/
def fetch (s : State) : Pending :=
  match s.faulted with
  | some c => .faulted c
  | none =>
    match s.stimuli with
    | [] => .nothing
    | .reset draw :: rest => .reset draw { s with stimuli := rest }
    | .word w :: rest =>
      .run (decode w)
        { s with
          stimuli :=
            if s.txBusy && isHostAccess (decode w) then deferHost (.word w :: rest) else rest }

/-- The word that bits `nbits` of `w` stand for, put before every pending stimulus. -/
def presentWord (s : State) (nbits w : Nat) : State :=
  { s with stimuli := .word (BitVec.ofNat 24 (w % 2 ^ nbits)) :: s.stimuli }

end Sys2Proof.Machine
end

