-- ==== Sys2Proof/Machine/Step.lean ====
section
/-! DEFINITION. One step: the application of the next stimulus (00_scope.md R12). -/

namespace Sys2Proof.Machine

/-- One step. -/
def step (s : State) : Host.Outcome State Fault Refusal :=
  match fetch s with
  | .faulted c => .fault c
  | .nothing => .refused .noStimulus
  | .reset draw t => .next (hardReset t draw)
  | .run i t => exec i t

/-- `s` with the word presented next: the agents present stimuli from outside the block (log entry 5). -/
def State.withFetchWord (s : State) (nbits w : Nat) : State := presentWord s nbits w

end Sys2Proof.Machine
end

