-- ==== Sys2Proof/Machine/Assembler.lean ====
section
/-! DEFINITION. The stimulus assembly language (30_encoding.md R92) and the expansions of its pseudo-instructions
(R93). Text is a list of characters. What R92 leaves open (blanks, the case of register names, an operand out of
the range its name shows) is log entry 15, DESIGN CHOICE. -/

namespace Sys2Proof.Machine

/-- Why a line does not assemble: nothing is emitted (R92). -/
inductive AsmError where
  | badStatement
  | badRegister
  | badLiteral
  deriving DecidableEq, Repr

/-- A statement or pseudo-instruction (R92, R93). -/
inductive AsmStatement where
  | ticks (n : Nat)
  | edge
  | rd (a : BitVec 4)
  | wr (a : BitVec 4) (d : Half)
  | tone (b : Bool)
  | toneFrame (b : Byte)
  deriving DecidableEq, Repr

/-- The words of `TONE b`: 2 CYC(b) copies of a TICK, an EDGE and NOM(b) - 1 TICKs (R93). -/
def toneWords (c : Config) (b : Bool) : List StimulusWord :=
  (List.replicate (2 * toneCyc c b)
    (0x000000#24 :: 0x400000#24 :: List.replicate (toneNom c b - 1) 0x000000#24)).flatten

/-- The words of `TONEFRAME b`: the tones of the thirteen bits of its frame (R93, 44_modulator.md R212). -/
def toneFrameWords (c : Config) (b : Byte) : List StimulusWord :=
  ((List.range 13).map fun k => toneWords c ((frameOf b).getLsbD k)).flatten

/-- The words a statement stands for (R92, R93). -/
def AsmStatement.words (c : Config) : AsmStatement → List StimulusWord
  | .ticks n => List.replicate n 0x000000#24
  | .edge => [0x400000#24]
  | .rd a => [readWord a]
  | .wr a d => [writeWord a d]
  | .tone b => toneWords c b
  | .toneFrame b => toneFrameWords c b

/-- Letters are read as capitals. -/
def upperChar (c : Char) : Char :=
  if 97 ≤ c.toNat ∧ c.toNat ≤ 122 then Char.ofNat (c.toNat - 32) else c

/-- The tokens of a line: runs of characters between blanks, a comma by itself, up to a `;` (R92). `cur` is the
run being read. -/
def lineTokens (cur : List Char) : List Char → List (List Char)
  | [] => if cur.isEmpty then [] else [cur]
  | c :: rest =>
    if c = ';' then (if cur.isEmpty then [] else [cur])
    else if c = ' ' ∨ c = '\t' then (if cur.isEmpty then [] else [cur]) ++ lineTokens [] rest
    else if c = ',' then (if cur.isEmpty then [] else [cur]) ++ [','] :: lineTokens [] rest
    else lineTokens (cur ++ [upperChar c]) rest

/-- The value of a digit. -/
def digitValue (c : Char) : Nat :=
  if 48 ≤ c.toNat ∧ c.toNat ≤ 57 then c.toNat - 48
  else if 65 ≤ c.toNat ∧ c.toNat ≤ 70 then c.toNat - 55
  else 16

/-- The value of a run of digits in a base. -/
def digitsValue (base acc : Nat) : List Char → Option Nat
  | [] => some acc
  | c :: rest =>
    if digitValue c < base then digitsValue base (acc * base + digitValue c) rest else none

/-- A decimal, 0x hexadecimal or 0b binary literal (R92). -/
def literalValue : List Char → Option Nat
  | [] => none
  | ['0', 'X'] => none
  | ['0', 'B'] => none
  | '0' :: 'X' :: rest => digitsValue 16 0 rest
  | '0' :: 'B' :: rest => digitsValue 2 0 rest
  | digits => digitsValue 10 0 digits

/-- A literal not above a bound. -/
def boundedLiteral (bound : Nat) (tok : List Char) : Except AsmError Nat :=
  match literalValue tok with
  | some n => if n ≤ bound then .ok n else .error .badLiteral
  | none => .error .badLiteral

/-- The address of a register name of 20_memory.md R61, or of `@n` (R92). -/
def registerAddress (tok : List Char) : Except AsmError (BitVec 4) :=
  match tok with
  | ['C', 'T', 'R', 'L'] => .ok 0#4
  | ['S', 'T', 'A', 'T', 'U', 'S'] => .ok 1#4
  | ['A', 'V', 'A', 'I', 'L'] => .ok 2#4
  | ['R', 'X', 'D', 'A', 'T', 'A'] => .ok 3#4
  | ['T', 'X', 'D', 'A', 'T', 'A'] => .ok 4#4
  | ['T', 'X', 'B', 'I', 'T'] => .ok 5#4
  | ['L', 'O', 'W', 'C', 'N', 'T'] => .ok 6#4
  | ['H', 'I', 'G', 'H', 'C', 'N', 'T'] => .ok 7#4
  | ['T', 'C', 'N', 'T'] => .ok 8#4
  | ['O', 'C', 'R'] => .ok 9#4
  | ['L', 'A', 'S', 'T', 'T', 'I', 'C', 'K'] => .ok 10#4
  | ['P', 'R', 'E', 'V', 'S', 'M'] => .ok 11#4
  | ['R', 'X', 'S', 'H', 'I', 'F', 'T'] => .ok 12#4
  | ['B', 'W', 'O'] => .ok 13#4
  | '@' :: n =>
    match literalValue n with
    | some k => if k ≤ 15 then .ok (BitVec.ofNat 4 k) else .error .badRegister
    | none => .error .badRegister
  | _ => .error .badRegister

/-- `TICK` with a count (R93). -/
def parseTicks (n : List Char) : Except AsmError (Option AsmStatement) :=
  match literalValue n with
  | some k => .ok (some (.ticks k))
  | none => .error .badLiteral

/-- `WR <reg>, <imm>` (R92). -/
def parseWr (r d : List Char) : Except AsmError (Option AsmStatement) :=
  match registerAddress r with
  | .error e => .error e
  | .ok a =>
    match boundedLiteral 0xFFFF d with
    | .error e => .error e
    | .ok n => .ok (some (.wr a (BitVec.ofNat 16 n)))

/-- `RD <reg>` (R92). -/
def parseRd (r : List Char) : Except AsmError (Option AsmStatement) :=
  match registerAddress r with
  | .error e => .error e
  | .ok a => .ok (some (.rd a))

/-- A pseudo-instruction with one literal operand up to `bound` (R93). -/
def parseOne (bound : Nat) (d : List Char) (f : Nat → AsmStatement) :
    Except AsmError (Option AsmStatement) :=
  match boundedLiteral bound d with
  | .error e => .error e
  | .ok n => .ok (some (f n))

/-- The statement of a line, or none for a line that is blank or only a comment. -/
def parseTokens (toks : List (List Char)) : Except AsmError (Option AsmStatement) :=
  match toks with
  | [] => .ok none
  | [['T', 'I', 'C', 'K']] => .ok (some (.ticks 1))
  | [['T', 'I', 'C', 'K'], n] => parseTicks n
  | [['E', 'D', 'G', 'E']] => .ok (some .edge)
  | [['R', 'D'], r] => parseRd r
  | [['W', 'R'], r, [','], d] => parseWr r d
  | [['B', 'E', 'G', 'I', 'N']] => .ok (some (.wr 0#4 1#16))
  | [['E', 'N', 'D']] => .ok (some (.wr 0#4 0#16))
  | [['A', 'V', 'A', 'I', 'L', 'A', 'B', 'L', 'E']] => .ok (some (.rd 2#4))
  | [['R', 'E', 'A', 'D']] => .ok (some (.rd 3#4))
  | [['W', 'R', 'I', 'T', 'E', 'B', 'Y', 'T', 'E'], d] =>
    parseOne 0xFF d fun n => .wr 4#4 (BitVec.ofNat 16 n)
  | [['E', 'M', 'I', 'T', 'B', 'I', 'T'], d] => parseOne 1 d fun n => .wr 5#4 (BitVec.ofNat 16 n)
  | [['T', 'O', 'N', 'E'], d] => parseOne 1 d fun n => .tone (n == 1)
  | [['T', 'O', 'N', 'E', 'F', 'R', 'A', 'M', 'E'], d] =>
    parseOne 0xFF d fun n => .toneFrame (BitVec.ofNat 8 n)
  | _ => .error .badStatement

/-- The words of one line, or an assembly error. -/
def assembleLine (c : Config) (line : List Char) : Except AsmError (List StimulusWord) :=
  match parseTokens (lineTokens [] line) with
  | .error e => .error e
  | .ok none => .ok []
  | .ok (some st) => .ok (st.words c)

/-- The words of a program, one statement a line; nothing where a line does not assemble. -/
def assemble (c : Config) : List (List Char) → Except AsmError (List StimulusWord)
  | [] => .ok []
  | line :: rest =>
    match assembleLine c line, assemble c rest with
    | .ok ws, .ok more => .ok (ws ++ more)
    | .error e, _ => .error e
    | .ok _, .error e => .error e

end Sys2Proof.Machine
end

