-- ==== Sys2Proof/Machine/Construct.lean ====
section
/-! DEFINITION. Construction: the derived constants (00_scope.md R6), validity (R7), and the block right after
construction (R238: an invalid configuration is refused, and no block exists). -/

namespace Sys2Proof.Machine

/-- The nominal half-period of a tone, in ticks (R6). -/
def nominalTicks (p : Params) (hz : Nat) : Nat := p.tickHz / (2 * hz)

/-- The lower end of a tolerance band (R6). A band wider than its nominal has its lower end at 0: no interval
is below it (log entry 12, DEDUCED). -/
def bandLow (p : Params) (nom : Nat) : Nat := nom * (p.bandDen - p.bandNum) / p.bandDen

/-- The upper end of a tolerance band (R6). -/
def bandHigh (p : Params) (nom : Nat) : Nat := nom * (p.bandDen + p.bandNum) / p.bandDen

/-- The configuration of a parameter record (R6), every quotient a floor. -/
def deriveConfig (p : Params) : Config where
  bitTicks := p.tickHz / p.baud
  lowNom := nominalTicks p p.lowHz
  highNom := nominalTicks p p.highHz
  lowCyc := p.lowHz / p.baud
  highCyc := p.highHz / p.baud
  lowLo := bandLow p (nominalTicks p p.lowHz)
  lowHi := bandHigh p (nominalTicks p p.lowHz)
  highLo := bandLow p (nominalTicks p p.highHz)
  highHi := bandHigh p (nominalTicks p p.highHz)
  noiseFloor := nominalTicks p p.highHz * p.noiseNum / p.noiseDen
  startTh := p.tickHz / p.baud * p.startNum / p.startDen
  depth := p.depth
  m := p.m
  startAlign := p.startAlign
  symReset := p.symReset
  hasModulator := p.hasModulator

/-- A parameter record has a block: its configuration is valid (R7), every quotient of R6 has a denominator and
TCNT_INIT is in [0, M) (R5; log entry 12, DEDUCED). -/
abbrev Constructible (p : Params) : Prop :=
  0 < p.baud ∧ 0 < p.lowHz ∧ 0 < p.highHz ∧ 0 < p.bandDen ∧ 0 < p.noiseDen ∧ 0 < p.startDen ∧
  p.tcntInit < p.m ∧ (deriveConfig p).Valid

/-- INVALID_CONFIG (R238): a refusal at construction, not a fault of a running block. -/
inductive ConstructionError where
  | invalidConfig
  deriving DecidableEq, Repr

/-- The block of a parameter record right after construction and hardware reset, or the refusal. -/
def construct (p : Params) : Except ConstructionError State :=
  if Constructible p then .ok (State.initial (deriveConfig p) p.tcntInit) else .error .invalidConfig

end Sys2Proof.Machine
end

