-- ==== Sys2Proof/Safety.lean ====
section
/-! DEFINITION. What a run must keep and when it is complete: the invariants the rules state or imply, and the
end of a run (70_reset_and_hazards.md R277). -/

namespace Sys2Proof.Machine

/-- Every timer register is below M (10_state.md, opening paragraph), and OVF = 0 implies TCNT >= LAST_TICK
(41_classifier.md R121). -/
abbrev TimerInv (s : State) : Prop :=
  s.tcnt.toNat < s.cfg.m ∧ s.ocr.toNat < s.cfg.m ∧ s.lastTick.toNat < s.cfg.m ∧ s.bwo.toNat < s.cfg.m ∧
  (s.ovf = false → s.lastTick.toNat ≤ s.tcnt.toNat)

/-- No sample can fire while EN = 0 (40_timer.md R105), EN and a transmission need a BEGIN since the last
hardware reset (10_state.md R26, 44_modulator.md R215). -/
abbrev LifecycleInv (s : State) : Prop :=
  (s.sampleEn = true → s.en = true) ∧ (s.en = true → s.txen = true) ∧ (s.txBusy = true → s.txen = true)

/-- BUF is in canonical form within [0, DEPTH), HEAD and TAIL are indices (10_state.md R35, R36), and every slot
that holds a stored byte of the queue has been written by a push (R34: "A slot is read only after a push has
written it"). -/
abbrev FifoInv (s : State) : Prop :=
  s.buf.wf ∧ (∀ c ∈ s.buf, c.1 < s.cfg.depth) ∧ s.head.toNat < s.cfg.depth ∧ s.tail.toNat < s.cfg.depth ∧
  ∀ k < fifoCount s, (s.buf.read ((s.head.toNat + k) % s.cfg.depth)).isSome = true

/-- While a transmission is in progress its counters are as TXSTEP needs them (44_modulator.md R213 corner cases);
between transmissions TXOUT is 0 (R217); without a modulator its registers stay at their reset values
(43_fifo_host.md R186). -/
abbrev ModulatorInv (s : State) : Prop :=
  (s.txBusy = true →
    s.cfg.hasModulator = true ∧ s.txWait.toNat < s.txHalf.toNat ∧ (s.txWait = 0#16 → s.txHalves ≠ 0#16) ∧
    s.txIdx.toNat < s.txNbits.toNat ∧ s.txNbits.toNat ≤ 13) ∧
  s.txout = s.txHalves.getLsbD 0 ∧ (s.txBusy = false → s.txout = false) ∧
  (s.cfg.hasModulator = false →
    s.txout = false ∧ s.txFrame = 0#13 ∧ s.txNbits = 0#4 ∧ s.txIdx = 0#4 ∧ s.txHalves = 0#16 ∧
    s.txWait = 0#16 ∧ s.txHalf = 0#16)

/-- The invariant of a block of a valid configuration. -/
abbrev Inv (s : State) : Prop :=
  s.cfg.Valid ∧ s.cfg.TonesFit ∧ TimerInv s ∧ LifecycleInv s ∧ FifoInv s ∧ ModulatorInv s

/-- A run that has ended is complete (R277): no fault, no transmission in flight, and no stimulus left, so none
held. -/
def Complete (s : State) : Bool := s.faulted.isNone && !s.txBusy && s.stimuli.isEmpty

/-- The bytes stored in the FIFO, the next to be popped first (20_memory.md R72, 43_fifo_host.md R182). -/
def fifoContents (s : State) : List Byte :=
  (List.range (fifoCount s)).map fun k => slotByte s ((s.head.toNat + k) % s.cfg.depth)

/-- The two states agree on everything the receiver holds: timer, lifecycle enables, classifier, frame state machine
and FIFO (10_state.md R21 to R25, R27 to R36). -/
abbrev SameReceiver (s t : State) : Prop :=
  s.cfg = t.cfg ∧ s.tcnt = t.tcnt ∧ s.ovf = t.ovf ∧ s.ocr = t.ocr ∧ s.sampleEn = t.sampleEn ∧ s.en = t.en ∧
  s.lastTick = t.lastTick ∧ s.prevSmooth = t.prevSmooth ∧ s.lowCount = t.lowCount ∧
  s.highCount = t.highCount ∧ s.bwo = t.bwo ∧ s.frameState = t.frameState ∧ s.rxShift = t.rxShift ∧
  s.buf = t.buf ∧ s.head = t.head ∧ s.tail = t.tail

/-- The two states agree on everything the modulator holds (10_state.md R38 to R44, R48). -/
abbrev SameTransmitter (s t : State) : Prop :=
  s.cfg = t.cfg ∧ s.txBusy = t.txBusy ∧ s.txFrame = t.txFrame ∧ s.txNbits = t.txNbits ∧ s.txIdx = t.txIdx ∧
  s.txHalves = t.txHalves ∧ s.txWait = t.txWait ∧ s.txHalf = t.txHalf ∧ s.txout = t.txout

/-- The state after `n` TICKs and nothing else (40_timer.md R100). -/
def afterTicks : Nat → State → State
  | 0, s => s
  | n + 1, s => tick (afterTicks n s).quiet

/-- The number of TICKs to the next compare match: `(OCR - TCNT) mod M`, and M where that is 0 (40_timer.md R107). -/
def compareDistance (s : State) : Nat :=
  if subMod s.ocr.toNat s.tcnt.toNat s.cfg.m = 0 then s.cfg.m else subMod s.ocr.toNat s.tcnt.toNat s.cfg.m

/-- D(x), the TICKs one transmitted bit lasts (44_modulator.md R217). -/
def toneTicks (c : Config) (x : Bool) : Nat := 2 * toneCyc c x * toneNom c x

/-- S_k, the TICKs before bit k of a transmission of the bits of `f` (44_modulator.md R217). -/
def bitStart (c : Config) (f : BitVec 13) : Nat → Nat
  | 0 => 0
  | k + 1 => bitStart c f k + toneTicks c (f.getLsbD k)

/-- A crossing of the output line among a step's events (44_modulator.md R218). -/
def toggles (s : State) : Bool :=
  s.out.events.any fun e =>
    match e with
    | .txToggle _ => true
    | _ => false

end Sys2Proof.Machine
end

