-- ==== Sys2Proof/Certificates/Slice0/Obligations.lean ====
section
/-! DEFINITION. The statements about the model, for the provers. -/

open Sys2Proof Sys2Proof.Machine

/-! ### Encoding -/

/-- Every well-formed stimulus has one word, and the decoder reads that stimulus from it, with every operand. -/
def Obligations.DecodeOfEncode : Prop :=
  ∀ i : Instr, i.wellFormed = true → i.hasWord = true → ∃ w, encode i = [w] ∧ decode w = i

/-- Every 24-bit word is the word of exactly what the decoder reads from it, so no bit of a word is dropped. -/
def Obligations.EncodeOfDecode : Prop :=
  ∀ w : StimulusWord, encode (decode w) = [w] ∧ (decode w).wellFormed = true ∧ (decode w).hasWord = true

/-- 30_encoding.md R82: a word is illegal exactly when RSV is not zero, or it is a TICK or EDGE word with ADDR or
DATA not zero, or an RD word with DATA not zero. -/
def Obligations.IllegalExactlyByFieldRules : Prop :=
  ∀ w : StimulusWord,
    (decode w = .illegal w ↔
      ¬ (w.extractLsb' 20 2 = 0#2 ∧
        (w.extractLsb' 22 2 = 0b00#2 ∨ w.extractLsb' 22 2 = 0b01#2 →
          w.extractLsb' 16 4 = 0#4 ∧ w.extractLsb' 0 16 = 0#16) ∧
        (w.extractLsb' 22 2 = 0b10#2 → w.extractLsb' 0 16 = 0#16))) ∧
    ∀ v, decode w = .illegal v → v = w

/-- Every legal word shows the pattern of exactly one row of the opcode table, and an illegal word of none. -/
def Obligations.OpcodeRowsPartitionLegalWords : Prop :=
  opcodeRows.length = 35 ∧
  ∀ w : StimulusWord,
    (legalWord w = true → ∃ r, r ∈ opcodeRows ∧ r.covers w = true ∧
      ∀ r' ∈ opcodeRows, r'.covers w = true → r' = r) ∧
    (legalWord w = false → ∀ r ∈ opcodeRows, r.covers w = false)

/-- 30_encoding.md R94: the worked encodings, through the assembler where the rule names a statement. (The spec
marks the rule as derived.) -/
def Obligations.WorkedEncodings : Prop :=
  (∀ c : Config,
    assembleLine c "BEGIN".toList = .ok [0xC00001#24] ∧
    assembleLine c "END".toList = .ok [0xC00000#24] ∧
    assembleLine c "READ".toList = .ok [0x830000#24] ∧
    assembleLine c "AVAILABLE".toList = .ok [0x820000#24] ∧
    assembleLine c "WRITEBYTE 0x5A".toList = .ok [0xC4005A#24] ∧
    assembleLine c "EMITBIT 1".toList = .ok [0xC50001#24] ∧
    assembleLine c "RD LOWCNT".toList = .ok [0x860000#24] ∧
    assembleLine c "RD @15".toList = .ok [0x8F0000#24]) ∧
  decode 0x100000#24 = .illegal 0x100000#24 ∧
  decode 0x000001#24 = .illegal 0x000001#24 ∧
  decode 0x830001#24 = .illegal 0x830001#24 ∧
  decode 0xC00001#24 = .wrCtrlBegin 0#15 ∧ decode 0xC00000#24 = .wrCtrlEnd 0#15 ∧
  decode 0x830000#24 = .rdRxdata ∧ decode 0x820000#24 = .rdAvail ∧
  decode 0xC4005A#24 = .wrTxdata 0#8 0x5A#8 ∧ decode 0xC50001#24 = .wrTxbit 0#15 1#1 ∧
  decode 0x860000#24 = .rdLowcnt ∧ decode 0x8F0000#24 = .rdReserved15

/-- 30_encoding.md R87: the bits of DATA that a register ignores do not matter. -/
def Obligations.IgnoredDataBitsHaveNoEffect : Prop :=
  (∀ (x y : BitVec 15) (s : State), exec (.wrCtrlBegin x) s = exec (.wrCtrlBegin y) s) ∧
  (∀ (x y : BitVec 15) (s : State), exec (.wrCtrlEnd x) s = exec (.wrCtrlEnd y) s) ∧
  (∀ (x y : BitVec 8) (b : Byte) (s : State), exec (.wrTxdata x b) s = exec (.wrTxdata y b) s) ∧
  (∀ (x y : BitVec 15) (b : BitVec 1) (s : State), exec (.wrTxbit x b) s = exec (.wrTxbit y b) s)

/-! ### The assembly language -/

/-- 30_encoding.md R92: one line that does not assemble leaves a program without words, and otherwise its words are
those of its lines in order. -/
def Obligations.AssemblyIsAllOrNothing : Prop :=
  ∀ (c : Config) (lines : List (List Char)),
    ((∃ l ∈ lines, ∃ e, assembleLine c l = .error e) → ∃ e, assemble c lines = .error e) ∧
    ∀ ws : List (List StimulusWord),
      lines.map (assembleLine c) = ws.map Except.ok → assemble c lines = .ok ws.flatten

/-- 30_encoding.md R92: a line that writes a literal above 0xFFFF does not assemble; nor does an RD or WR of any
token that is no register name of 20_memory.md R61 and no `@` with a literal up to 15. The lines are given by their
tokens; how text becomes tokens, read as capitals, is the model's choice (log entry 15). -/
def Obligations.AssemblyErrors : Prop :=
  (∀ (c : Config) (line r d : List Char) (n : Nat),
    lineTokens [] line = ["WR".toList, r, ",".toList, d] → literalValue d = some n → 0xFFFF < n →
    ∃ e, assembleLine c line = .error e) ∧
  (∀ (c : Config) (line r : List Char),
    r ∉ ["CTRL", "STATUS", "AVAIL", "RXDATA", "TXDATA", "TXBIT", "LOWCNT", "HIGHCNT", "TCNT", "OCR", "LASTTICK",
      "PREVSM", "RXSHIFT", "BWO"].map String.toList →
    (∀ ds n, r = '@' :: ds → literalValue ds = some n → 15 < n) →
    (lineTokens [] line = ["RD".toList, r] → ∃ e, assembleLine c line = .error e) ∧
    ∀ d, lineTokens [] line = ["WR".toList, r, ",".toList, d] → ∃ e, assembleLine c line = .error e) ∧
  ∀ c : Config, assembleLine c "WR TXDATA, 0x10000".toList = .error .badLiteral ∧
    assembleLine c "RD FOO".toList = .error .badRegister

/-- 30_encoding.md R93: a TONE is 2 CYC copies of a TICK, an EDGE and NOM - 1 TICKs; its words are TICKs and EDGEs
alone, D(b) of them TICKs and 2 CYC(b) EDGEs. -/
def Obligations.ToneExpansion : Prop :=
  ∀ (c : Config) (b : Bool), c.Valid →
    (toneWords c b).length = 2 * toneCyc c b * (toneNom c b + 1) ∧
    ((toneWords c b).filter fun w => decode w == .tick).length = toneTicks c b ∧
    ((toneWords c b).filter fun w => decode w == .edge).length = 2 * toneCyc c b

/-! ### Construction and reset -/

/-- 00_scope.md R8: the derived constants of the reference parameters, and that they are valid. (The spec
marks the rule as derived.) -/
def Obligations.ReferenceConstants : Prop :=
  deriveConfig Params.reference =
    { bitTicks := 240, lowNom := 30, highNom := 20, lowCyc := 4, highCyc := 6, lowLo := 24, lowHi := 36,
      highLo := 16, highHi := 24, noiseFloor := 10, startTh := 168, depth := 32, m := 256,
      startAlign := .compensated, symReset := false, hasModulator := true } ∧
  (deriveConfig Params.reference).Valid

/-- 00_scope.md R7: a parameter record whose configuration breaks one of the ranges has no block. -/
def Obligations.InvalidConfigurationRefused : Prop :=
  ∀ p : Params,
    let c := deriveConfig p
    ¬ (2 ≤ c.m ∧ c.m ≤ 32768 ∧ 1 ≤ c.bitTicks ∧ c.bitTicks ≤ c.m ∧ 1 ≤ c.lowNom ∧ 1 ≤ c.highNom ∧
        1 ≤ c.lowCyc ∧ 1 ≤ c.highCyc ∧ 2 ≤ c.depth ∧ c.depth ≤ 65536 ∧ c.startTh ≤ 65535 ∧
        c.lowLo ≤ 65535 ∧ c.lowHi ≤ 65535 ∧ c.highLo ≤ 65535 ∧ c.highHi ≤ 65535) →
      construct p = .error .invalidConfig

/-- 00_scope.md R6 and R7: a record with a valid derived configuration, no zero denominator and TCNT_INIT below M has
its block, the state right after reset; a record with a zero denominator or with TCNT_INIT not below M has none (that
last clause is the model's choice, log entry 12). -/
def Obligations.ValidParametersAreConstructed : Prop :=
  ∀ p : Params,
    let wellGiven := 0 < p.baud ∧ 0 < p.lowHz ∧ 0 < p.highHz ∧ 0 < p.bandDen ∧ 0 < p.noiseDen ∧ 0 < p.startDen ∧
      p.tcntInit < p.m
    (wellGiven → (deriveConfig p).Valid →
      ∃ s, construct p = .ok s ∧ s = State.initial (deriveConfig p) p.tcntInit ∧ s.tcnt.toNat = p.tcntInit) ∧
    (¬ wellGiven → construct p = .error .invalidConfig)

/-- In every block that construction gives, the modulator's registers hold its tones without truncation, and a
transmitted bit is never longer than the bit period. -/
def Obligations.ConstructedTonesFit : Prop :=
  ∀ p s, construct p = .ok s →
    s.cfg = deriveConfig p ∧ s.cfg.TonesFit ∧ ∀ x, toneTicks s.cfg x ≤ s.cfg.bitTicks

/-- 10_state.md R50: what a hardware reset leaves, at any point of a run that is not faulted. -/
def Obligations.HardwareResetValues : Prop :=
  ∀ (s : State) (draw : Nat) (rest : List Stimulus),
    s.faulted = none → s.stimuli = .reset draw :: rest → s.cfg.Valid → draw < s.cfg.m →
    ∃ t, step s = .next t ∧
      t.tcnt.toNat = draw ∧ t.ovf = false ∧ t.ocr = 0#15 ∧ t.sampleEn = false ∧ t.en = false ∧
      t.txen = false ∧ t.lastTick = 0#15 ∧ t.prevSmooth = 0#16 ∧ t.lowCount = 0#16 ∧
      t.highCount = 0#16 ∧ t.bwo = 0#15 ∧ t.frameState = .idle ∧ t.rxShift = 0#8 ∧
      t.head = 0#16 ∧ t.tail = 0#16 ∧ t.txBusy = false ∧ t.txFrame = 0#13 ∧ t.txNbits = 0#4 ∧
      t.txIdx = 0#4 ∧ t.txHalves = 0#16 ∧ t.txWait = 0#16 ∧ t.txHalf = 0#16 ∧ t.txout = false ∧
      t.faulted = s.faulted ∧ t.cfg = s.cfg ∧ t.stimuli = rest

/-- 70_reset_and_hazards.md R261: after a hardware reset, the first or one at any later point of a run that is not
faulted, every host register reads 0x0000, except TCNT, which reads TCNT_INIT. (The spec marks the rule as derived;
that a reset is an item of the stimulus list is the model's choice, log entry 7.) -/
def Obligations.HostReadsAfterReset : Prop :=
  let readsAsReset (t : State) (draw : Nat) : Prop :=
    (∀ i ∈ [Instr.rdCtrl, .rdStatus, .rdAvail, .rdRxdata, .rdTxdata, .rdTxbit, .rdLowcnt, .rdHighcnt, .rdOcr,
        .rdLasttick, .rdPrevsm, .rdRxshift, .rdBwo, .rdReserved14, .rdReserved15],
      ∃ u, exec i t = .next u ∧ u.out.response = .value 0#16) ∧
    ∃ u, exec .rdTcnt t = .next u ∧ u.out.response = .value (BitVec.ofNat 16 draw)
  (∀ (c : Config) (draw : Nat), c.Valid → draw < c.m → readsAsReset (State.initial c draw) draw) ∧
  ∀ (s : State) (draw : Nat) (rest : List Stimulus),
    s.faulted = none → s.stimuli = .reset draw :: rest → s.cfg.Valid → draw < s.cfg.m →
    ∃ t, step s = .next t ∧ readsAsReset t draw

/-! ### The step -/

/-- A step runs the instruction that the decoder reads from the next stimulus word, with that word taken off the
list, unless R187 holds it. -/
def Obligations.StepRunsDecodedInstruction : Prop :=
  ∀ (s : State) (w : StimulusWord) (rest : List Stimulus),
    s.faulted = none → s.stimuli = .word w :: rest → ¬ (s.txBusy = true ∧ isHostAccess (decode w) = true) →
    step s = exec (decode w) { s with stimuli := rest }

/-- A word presented next is the word the next step runs. -/
def Obligations.PresentedWordRunsNext : Prop :=
  ∀ (s : State) (w : StimulusWord),
    s.faulted = none → ¬ (s.txBusy = true ∧ isHostAccess (decode w) = true) →
    step (s.withFetchWord 24 w.toNat) = exec (decode w) s

/-- A held host access is neither applied nor lost: it stays on the list behind the next stimulus of another agent,
and the order of the host's accesses stays; with no other agent's stimulus pending, the list stays as it is
(43_fifo_host.md R187 and 00_scope.md R11; that the access is retried right after that stimulus is the model's
choice, log entry 6). -/
def Obligations.HeldAccessIsKept : Prop :=
  ∀ (s : State) (h : Stimulus) (hosts : List Stimulus),
    s.faulted = none → s.txBusy = true → (∀ x ∈ h :: hosts, x.isHost = true) →
    (s.stimuli = h :: hosts → step s = .next { s with out := ⟨[], .held⟩ }) ∧
    ∀ (e : Stimulus) (rest : List Stimulus), e.isHost = false → s.stimuli = h :: hosts ++ e :: rest →
      step s = .next { s with stimuli := e :: (h :: hosts ++ rest), out := ⟨[], .held⟩ }

/-- A step always answers a next state while the run is not faulted and a stimulus is pending; with none pending
there is no step (log entry 5). -/
def Obligations.StepNeedsAStimulus : Prop :=
  ∀ s : State, s.faulted = none →
    (s.stimuli ≠ [] → ∃ t, step s = .next t) ∧ (s.stimuli = [] → step s = .refused .noStimulus)

/-- No instruction faults or is refused: whatever the state, it has a next state (the two faults of
60_exceptions.md R238 are marks in that state, R239). -/
def Obligations.EveryInstructionHasANextState : Prop :=
  ∀ (i : Instr) (s : State), ∃ t, exec i s = .next t

/-- 60_exceptions.md R239: raising a fault changes no register and sets FAULTED; from then on every stimulus,
hardware reset included, reports the fault again. The model's choices: the step that raises a fault answers a next
state (log entry 8), and an illegal word raises its fault during a transmission too (log entry 17). -/
def Obligations.FaultsEndTheRun : Prop :=
  (∀ (w : StimulusWord) (s : State),
    exec (.illegal w) s = .next { s with faulted := some .illegalStimulus, out := ⟨[], .none⟩ }) ∧
  (∀ (x : BitVec 8) (b : Byte) (s : State), s.txBusy = false → s.cfg.hasModulator = true → s.txen = false →
    exec (.wrTxdata x b) s = .next { s with faulted := some .txBeforeBegin, out := ⟨[], .none⟩ }) ∧
  (∀ (x : BitVec 15) (b : BitVec 1) (s : State), s.txBusy = false → s.cfg.hasModulator = true →
    s.txen = false →
    exec (.wrTxbit x b) s = .next { s with faulted := some .txBeforeBegin, out := ⟨[], .none⟩ }) ∧
  ∀ (s : State) (c : Fault), s.faulted = some c → step s = .fault c

/-- 30_encoding.md R89: an illegal word raises ILLEGAL_STIMULUS and changes nothing else; the reserved addresses are
legal. That a transmission does not hold an illegal word (the case TX_BUSY = 1) is the model's choice, log entry 17. -/
def Obligations.IllegalWordRaisesItsFault : Prop :=
  (∀ (s : State) (w : StimulusWord) (rest : List Stimulus),
    s.faulted = none → s.stimuli = .word w :: rest → legalWord w = false →
    step s = .next { s with stimuli := rest, faulted := some .illegalStimulus, out := ⟨[], .none⟩ }) ∧
  decode 0x8E0000#24 = .rdReserved14 ∧ decode 0x8F0000#24 = .rdReserved15 ∧
  ∀ d : Half, decode (0xCE0000#24 ||| d.setWidth 24) = .wrReserved14 d ∧
    decode (0xCF0000#24 ||| d.setWidth 24) = .wrReserved15 d

/-! ### The timer -/

/-- 40_timer.md R100: a TICK counts, sets OVF on the wrap, then performs SAMPLE if the new count is the compare
target and SAMPLE_EN is set, then TXSTEP while TX_BUSY, in this order. -/
def Obligations.TickCountsThenSamplesThenTransmits : Prop :=
  ∀ s : State,
    let c : State :=
      { s with
        tcnt := BitVec.ofNat 15 ((s.tcnt.toNat + 1) % s.cfg.m)
        ovf := if (s.tcnt.toNat + 1) % s.cfg.m = 0 then true else s.ovf
        out := ⟨[], .none⟩ }
    (¬ (s.sampleEn = true ∧ c.tcnt = s.ocr) → s.txBusy = false → exec .tick s = .next c) ∧
    (s.sampleEn = true → c.tcnt = s.ocr → s.txBusy = false → exec .tick s = exec .sample c) ∧
    (¬ (s.sampleEn = true ∧ c.tcnt = s.ocr) → s.txBusy = true → exec .tick s = exec .txstep c) ∧
    (s.sampleEn = true → c.tcnt = s.ocr → s.txBusy = true →
      ∃ t u, exec .sample c = .next t ∧ exec .txstep t = .next u ∧
        exec .tick s = .next { u with out := ⟨t.out.events ++ u.out.events, .none⟩ })

/-- 40_timer.md R107: with SAMPLE_EN set, no sample fires for fewer TICKs than the compare distance and one fires
at exactly that many; the next is then BIT_TICKS away (42_frame.md R151). (The spec
marks the rule as derived.) -/
def Obligations.SampleFiresAtCompareDistance : Prop :=
  ∀ s : State, s.cfg.Valid → s.tcnt.toNat < s.cfg.m → s.ocr.toNat < s.cfg.m → s.sampleEn = true →
    (∀ k, k < compareDistance s →
      (afterTicks k s).ocr = s.ocr ∧ (afterTicks k s).frameState = s.frameState ∧
      (1 ≤ k → ∀ f b, Event.bitSample f b ∉ (afterTicks k s).out.events)) ∧
    Event.bitSample s.frameState (decide (s.lowCount.toNat < s.highCount.toNat)) ∈
      (afterTicks (compareDistance s) s).out.events ∧
    compareDistance (afterTicks (compareDistance s) s) = s.cfg.bitTicks

/-- 70_reset_and_hazards.md R265: after `e` TICKs since a crossing that was accepted at LAST_TICK, the raw interval
is `e` when at most one wrap lies between, and `e` less the further wraps otherwise; it is congruent to `e`, and
equal to it exactly when LAST_TICK + e < 2M. (The spec
marks the rule as derived.) -/
def Obligations.IntervalMeasuredModuloWraps : Prop :=
  ∀ (s : State) (e : Nat), s.cfg.Valid → s.lastTick.toNat < s.cfg.m → s.tcnt = s.lastTick → s.ovf = false →
    let k := (s.lastTick.toNat + e) / s.cfg.m
    (k ≤ 1 → rawInterval (afterTicks e s) = e) ∧
    (2 ≤ k → rawInterval (afterTicks e s) = e - (k - 1) * s.cfg.m) ∧
    rawInterval (afterTicks e s) % s.cfg.m = e % s.cfg.m ∧
    (rawInterval (afterTicks e s) = e ↔ s.lastTick.toNat + e < 2 * s.cfg.m)

/-! ### The classifier -/

/-- 41_classifier.md R122 and R131: a crossing changes nothing while EN = 0, and below the noise floor it changes
nothing but the event. -/
def Obligations.IgnoredCrossingsChangeNothing : Prop :=
  (∀ s : State, s.en = false → exec .edge s = .next { s with out := ⟨[], .none⟩ }) ∧
  ∀ s : State, s.en = true → s.cfg.Valid → TimerInv s →
    let raw := if s.ovf then s.cfg.m - s.lastTick.toNat + s.tcnt.toNat else s.tcnt.toNat - s.lastTick.toNat
    raw < s.cfg.noiseFloor →
    exec .edge s = .next { s with out := ⟨[.noiseDiscard (BitVec.ofNat 16 raw)], .none⟩ }

/-- 41_classifier.md R123 to R130: what an accepted crossing does, in full. -/
def Obligations.AcceptedCrossing : Prop :=
  ∀ s : State, s.en = true → s.cfg.Valid → TimerInv s →
    let raw := if s.ovf then s.cfg.m - s.lastTick.toNat + s.tcnt.toNat else s.tcnt.toNat - s.lastTick.toNat
    let sm : Half := BitVec.ofNat 16 (raw / 2 + raw / 4 + s.prevSmooth.toNat / 4)
    let high := decide (s.cfg.highLo ≤ sm.toNat ∧ sm.toNat ≤ s.cfg.highHi)
    let low := !high && decide (s.cfg.lowLo ≤ sm.toNat ∧ sm.toNat ≤ s.cfg.lowHi)
    let hc : Half := if high then BitVec.ofNat 16 (s.highCount.toNat + sm.toNat) else s.highCount
    let lc : Half := if low then BitVec.ofNat 16 (s.lowCount.toNat + sm.toNat) else s.lowCount
    let miss : List Event := if high || low then [] else [.classMiss (BitVec.ofNat 16 raw) sm]
    let target : TimerWord :=
      match s.cfg.startAlign with
      | .compensated =>
        BitVec.ofNat 15 (((s.tcnt.toNat : Int) + s.cfg.bitTicks - lc.toNat) % s.cfg.m).toNat
      | .now => BitVec.ofNat 15 ((s.tcnt.toNat + s.cfg.bitTicks) % s.cfg.m)
    s.cfg.noiseFloor ≤ raw →
    exec .edge s = .next
      (if s.frameState = .idle ∧ s.cfg.startTh ≤ lc.toNat then
        { s with
          lastTick := s.tcnt, ovf := false, prevSmooth := sm, lowCount := lc, highCount := 0#16,
          frameState := .start, bwo := s.tcnt, rxShift := 0#8, ocr := target, sampleEn := true,
          out := ⟨miss ++ [.startDetect lc], .none⟩ }
      else
        { s with
          lastTick := s.tcnt, ovf := false, prevSmooth := sm, lowCount := lc, highCount := hc,
          out := ⟨miss, .none⟩ })

/-- 41_classifier.md R135: the raw interval fits 16 bits and the smoothed interval is at most the larger of the raw
interval and the previous smoothed one, so the filter never overflows. (The spec
marks the rule as derived.) -/
def Obligations.SmoothingNeverOverflows : Prop :=
  ∀ s t : State, s.cfg.Valid → TimerInv s → exec .edge s = .next t →
    rawInterval s ≤ 2 * s.cfg.m - 1 ∧ rawInterval s ≤ 65535 ∧
    t.prevSmooth.toNat ≤ max (rawInterval s) s.prevSmooth.toNat ∧
    (s.en = true → s.cfg.noiseFloor ≤ rawInterval s →
      t.prevSmooth.toNat = rawInterval s / 2 + rawInterval s / 4 + s.prevSmooth.toNat / 4)

/-- 70_reset_and_hazards.md R266: the distance of the first sample from start detection, in its three cases, under
COMPENSATED. (The spec
marks the rule as derived.) -/
def Obligations.FirstSampleDistance : Prop :=
  ∀ s t : State, s.cfg.Valid → TimerInv s → s.cfg.startAlign = .compensated → exec .edge s = .next t →
    Event.startDetect t.lowCount ∈ t.out.events →
    (t.lowCount.toNat < t.cfg.bitTicks → compareDistance t = t.cfg.bitTicks - t.lowCount.toNat) ∧
    (t.lowCount.toNat % t.cfg.m = t.cfg.bitTicks % t.cfg.m → compareDistance t = t.cfg.m) ∧
    (t.cfg.bitTicks < t.lowCount.toNat → t.lowCount.toNat % t.cfg.m ≠ t.cfg.bitTicks % t.cfg.m →
      (compareDistance t : Int) = ((t.cfg.bitTicks : Int) - t.lowCount.toNat) % t.cfg.m)

/-! ### The frame state machine -/

/-- 42_frame.md R164 with R151, R152 and R160 to R163: the transition table of SAMPLE, each row with everything it
changes, for both values of SYM_RESET. -/
def Obligations.SampleTransitionTable : Prop :=
  ∀ s : State,
    let bit := decide (s.lowCount.toNat < s.highCount.toNat)
    let target : TimerWord := BitVec.ofNat 15 ((s.ocr.toNat + s.cfg.bitTicks) % s.cfg.m)
    let lc : Half := if s.cfg.symReset || !bit then 0#16 else s.lowCount
    let hc : Half := if s.cfg.symReset || bit then 0#16 else s.highCount
    let seen : List Event := [.bitSample s.frameState bit]
    exec .sample s = .next
      (match s.frameState with
      | .idle => { s with ocr := target, out := ⟨seen, .none⟩ }
      | .start =>
        if bit then { s with ocr := target, frameState := .idle, out := ⟨seen ++ [.falseStart], .none⟩ }
        else
          { s with
            ocr := target, frameState := .data 0, lowCount := lc, highCount := hc, out := ⟨seen, .none⟩ }
      | .data i =>
        { s with
          ocr := target
          rxShift := BitVec.ofNat 8 ((if bit then 128 else 0) + s.rxShift.toNat / 2)
          frameState := if i = 7 then .parity else .data (i + 1)
          lowCount := lc, highCount := hc, out := ⟨seen, .none⟩ }
      | .parity =>
        { s with
          ocr := target, frameState := .stop, lowCount := lc, highCount := hc, out := ⟨seen, .none⟩ }
      | .stop =>
        if (s.tail.toNat + 1) % s.cfg.depth = s.head.toNat then
          { s with
            ocr := target, frameState := .idle, sampleEn := false,
            out := ⟨seen ++ [.bufferOverrun s.rxShift], .none⟩ }
        else
          { s with
            ocr := target, frameState := .idle, sampleEn := false,
            buf := s.buf.write s.tail.toNat s.rxShift
            tail := BitVec.ofNat 16 ((s.tail.toNat + 1) % s.cfg.depth)
            out := ⟨seen ++ [.byteReceived s.rxShift], .none⟩ })

/-- 42_frame.md R165: the eight data samples of a frame give the byte whose bit k is the k-th decided bit, whatever
RX_SHIFT held before; `f k` is the state the k-th sample acts on. (The spec
marks the rule as derived.) -/
def Obligations.ByteReconstruction : Prop :=
  ∀ f : Nat → State,
    (∀ k, k < 8 → (f k).frameState = .data (Fin.ofNat 8 k)) →
    (∀ k, k < 8 → ∃ t, exec .sample (f k) = .next t ∧ t.rxShift = (f (k + 1)).rxShift) →
    (f 8).rxShift.toNat =
      ∑ k ∈ Finset.range 8, if (f k).lowCount.toNat < (f k).highCount.toNat then 2 ^ k else 0

/-- Start is entered by EDGE from Idle only (41_classifier.md R128, R132), and every other state of a frame by a
sample only (10_state.md R32). -/
def Obligations.FrameStateWriters : Prop :=
  ∀ (i : Instr) (s t : State), exec i s = .next t → t.frameState ≠ s.frameState →
    (t.frameState = .start → i = .edge ∧ s.frameState = .idle ∧ s.en = true) ∧
    (t.frameState ≠ .start → t.frameState ≠ .idle → i = .tick ∨ i = .sample) ∧
    (t.frameState = .idle → i = .tick ∨ i = .sample ∨ ∃ x, i = .wrCtrlBegin x)

/-! ### The FIFO -/

/-- 43_fifo_host.md R180: FifoPush, each slot's contents included. -/
def Obligations.FifoPushRule : Prop :=
  ∀ (v : Byte) (s : State),
    ((s.tail.toNat + 1) % s.cfg.depth = s.head.toNat →
      exec (.fifoPush v) s = .next { s with out := ⟨[.bufferOverrun v], .none⟩ }) ∧
    ((s.tail.toNat + 1) % s.cfg.depth ≠ s.head.toNat →
      ∃ b : Memory,
        exec (.fifoPush v) s = .next
          { s with
            buf := b, tail := BitVec.ofNat 16 ((s.tail.toNat + 1) % s.cfg.depth),
            out := ⟨[.byteReceived v], .none⟩ } ∧
        (s.buf.wf → b.wf ∧ b.read s.tail.toNat = some v ∧
          ∀ a, a ≠ s.tail.toNat → b.read a = s.buf.read a))

/-- 43_fifo_host.md R181: FifoPop. A slot no push has written gives some byte (log entry 4). -/
def Obligations.FifoPopRule : Prop :=
  ∀ s : State,
    (s.head = s.tail → exec .fifoPop s = .next { s with out := ⟨[.notAvailable], .popped none⟩ }) ∧
    (s.head ≠ s.tail →
      ∃ b : Byte, (∀ v, s.buf.read s.head.toNat = some v → b = v) ∧
        exec .fifoPop s = .next
          { s with
            head := BitVec.ofNat 16 ((s.head.toNat + 1) % s.cfg.depth),
            out := ⟨[], .popped (some b)⟩ })

/-- 43_fifo_host.md R191: RD RXDATA, not held. -/
def Obligations.ReceiveDataRead : Prop :=
  ∀ s : State, s.txBusy = false →
    (s.head = s.tail → exec .rdRxdata s = .next { s with out := ⟨[.notAvailable], .value 0x0000#16⟩ }) ∧
    (s.head ≠ s.tail →
      ∃ b : Byte, (∀ v, s.buf.read s.head.toNat = some v → b = v) ∧
        exec .rdRxdata s = .next
          { s with
            head := BitVec.ofNat 16 ((s.head.toNat + 1) % s.cfg.depth),
            out := ⟨[], .value (BitVec.ofNat 16 (0x0100 + b.toNat))⟩ })

/-- The FIFO is a queue of at most DEPTH - 1 bytes (10_state.md R37, 20_memory.md R72): a push appends or, when
full, drops; a pop and a read of RXDATA take the oldest byte; AVAIL is the number of bytes. -/
def Obligations.FifoIsABoundedQueue : Prop :=
  ∀ s : State, s.cfg.Valid → FifoInv s →
    (fifoContents s).length ≤ s.cfg.depth - 1 ∧
    (∀ v, ∃ t, exec (.fifoPush v) s = .next t ∧
      if (fifoContents s).length = s.cfg.depth - 1 then
        fifoContents t = fifoContents s ∧ t.out.events = [.bufferOverrun v]
      else fifoContents t = fifoContents s ++ [v] ∧ t.out.events = [.byteReceived v]) ∧
    (∃ t, exec .fifoPop s = .next t ∧
      match fifoContents s with
      | [] => fifoContents t = [] ∧ t.out = ⟨[.notAvailable], .popped none⟩
      | b :: rest => fifoContents t = rest ∧ t.out = ⟨[], .popped (some b)⟩) ∧
    (s.txBusy = false → ∃ t, exec .rdRxdata s = .next t ∧
      match fifoContents s with
      | [] => fifoContents t = [] ∧ t.out = ⟨[.notAvailable], .value 0#16⟩
      | b :: rest => fifoContents t = rest ∧ t.out = ⟨[], .value (BitVec.ofNat 16 (256 + b.toNat))⟩) ∧
    (s.txBusy = false → ∃ v : Half, v.toNat = (fifoContents s).length ∧
      exec .rdAvail s = .next { s with out := ⟨[], .value v⟩ })

/-- 43_fifo_host.md R199: RD AVAIL returns 0 exactly when RD RXDATA would return 0x0000; both are HEAD = TAIL. (The spec
marks the rule as derived.) -/
def Obligations.AvailZeroExactlyWhenReadIsNone : Prop :=
  ∀ s : State, s.cfg.Valid → FifoInv s → s.txBusy = false →
    ∃ t u, exec .rdAvail s = .next t ∧ exec .rdRxdata s = .next u ∧
      (t.out.response = .value 0#16 ↔ s.head = s.tail) ∧ (u.out.response = .value 0#16 ↔ s.head = s.tail)

/-! ### The host registers -/

/-- 43_fifo_host.md R188 and R189: RD CTRL and RD STATUS, field by field, without side effect. -/
def Obligations.ControlAndStatusReads : Prop :=
  ∀ s : State, s.txBusy = false →
    (∃ v : Half, v.toNat = s.en.toNat ∧ exec .rdCtrl s = .next { s with out := ⟨[], .value v⟩ }) ∧
    ∃ v : Half,
      v.toNat = s.en.toNat + 2 * s.sampleEn.toNat + 8 * s.ovf.toNat + 16 * s.txen.toNat +
        32 * s.txout.toNat +
        256 * (match s.frameState with
          | .idle => 0
          | .start => 1
          | .data i => 2 + i.val
          | .parity => 10
          | .stop => 11) ∧
      exec .rdStatus s = .next { s with out := ⟨[], .value v⟩ }

/-- 43_fifo_host.md R190: RD AVAIL returns (TAIL - HEAD) mod DEPTH, in [0, DEPTH - 1] (R182), without side effect. -/
def Obligations.AvailRead : Prop :=
  ∀ s : State, s.txBusy = false → s.cfg.Valid →
    ∃ v : Half, (v.toNat : Int) = ((s.tail.toNat : Int) - s.head.toNat) % s.cfg.depth ∧
      v.toNat ≤ s.cfg.depth - 1 ∧ exec .rdAvail s = .next { s with out := ⟨[], .value v⟩ }

/-- 43_fifo_host.md R192 and R194: the write-only registers and the reserved addresses read 0x0000, without side
effect. -/
def Obligations.WriteOnlyAndReservedReadsAreZero : Prop :=
  ∀ s : State, s.txBusy = false →
    ∀ i ∈ [Instr.rdTxdata, .rdTxbit, .rdReserved14, .rdReserved15],
      exec i s = .next { s with out := ⟨[], .value 0x0000#16⟩ }

/-- 10_state.md R57, 43_fifo_host.md R193: the debug window, each value zero-extended, without side effect. -/
def Obligations.DebugWindowReads : Prop :=
  ∀ s : State, s.txBusy = false →
    ∀ p ∈ [(Instr.rdLowcnt, s.lowCount.toNat), (.rdHighcnt, s.highCount.toNat), (.rdTcnt, s.tcnt.toNat),
        (.rdOcr, s.ocr.toNat), (.rdLasttick, s.lastTick.toNat), (.rdPrevsm, s.prevSmooth.toNat),
        (.rdRxshift, s.rxShift.toNat), (.rdBwo, s.bwo.toNat)],
      ∃ v : Half, v.toNat = p.2 ∧ exec p.1 s = .next { s with out := ⟨[], .value v⟩ }

/-- 43_fifo_host.md R187: while TX_BUSY = 1 every RD and WR returns HELD and changes nothing, whatever it is. -/
def Obligations.HostAccessHeldWhileBusy : Prop :=
  ∀ (i : Instr) (s : State), isHostAccess i = true → s.txBusy = true →
    exec i s = .next { s with out := ⟨[], .held⟩ }

/-- 43_fifo_host.md R198: a write to a read-only register or a reserved address changes nothing. -/
def Obligations.ReadOnlyWritesIgnored : Prop :=
  ∀ (s : State) (d : Half), s.txBusy = false →
    ∀ i ∈ [Instr.wrStatus d, .wrAvail d, .wrRxdata d, .wrLowcnt d, .wrHighcnt d, .wrTcnt d, .wrOcr d,
        .wrLasttick d, .wrPrevsm d, .wrRxshift d, .wrBwo d, .wrReserved14 d, .wrReserved15 d],
      exec i s = .next { s with out := ⟨[], .none⟩ }

/-- 43_fifo_host.md R183 (and R200, since EN may already be 1): BEGIN. -/
def Obligations.BeginRule : Prop :=
  ∀ (x : BitVec 15) (s : State), s.txBusy = false →
    exec (.wrCtrlBegin x) s = .next
      { s with
        txen := true, en := true, lastTick := s.tcnt, ovf := false, prevSmooth := 0#16, lowCount := 0#16,
        highCount := 0#16, frameState := .idle, rxShift := 0#8, sampleEn := false, out := ⟨[], .none⟩ }

/-- 43_fifo_host.md R184: END, and that it is idempotent. -/
def Obligations.EndRule : Prop :=
  ∀ (x y : BitVec 15) (s : State), s.txBusy = false →
    ∃ t, exec (.wrCtrlEnd x) s = .next t ∧
      t = { s with en := false, sampleEn := false, out := ⟨[], .none⟩ } ∧ exec (.wrCtrlEnd y) t = .next t

/-- 43_fifo_host.md R185: while EN = 0 and SAMPLE_EN = 0 a crossing does nothing and a TICK moves nothing of the
receiver but the timer. (The spec
marks the rule as derived.) -/
def Obligations.NoReactionWhileEnded : Prop :=
  ∀ s : State, s.en = false → s.sampleEn = false →
    exec .edge s = .next { s with out := ⟨[], .none⟩ } ∧
    ∃ t, exec .tick s = .next t ∧
      SameReceiver { s with tcnt := t.tcnt, ovf := t.ovf } t ∧ t.txen = s.txen ∧
      t.tcnt = BitVec.ofNat 15 ((s.tcnt.toNat + 1) % s.cfg.m) ∧
      ∀ e ∈ t.out.events, ∃ level, e = .txToggle level

/-! ### The modulator -/

/-- 44_modulator.md R212: the frame of a byte. -/
def Obligations.FrameBits : Prop :=
  ∀ b : Byte,
    (frameOf b).toNat =
      1 + 4 * b.toNat + 1024 * (((List.range 8).countP fun k => b.getLsbD k) % 2) + 2048 + 4096

/-- 44_modulator.md R210: WR TXDATA: held, ignored, a fault, or the start of a transmission of the frame. -/
def Obligations.WriteByteRule : Prop :=
  ∀ (x : BitVec 8) (b : Byte) (s : State),
    (s.txBusy = true → exec (.wrTxdata x b) s = .next { s with out := ⟨[], .held⟩ }) ∧
    (s.txBusy = false → s.cfg.hasModulator = false →
      exec (.wrTxdata x b) s = .next { s with out := ⟨[], .none⟩ }) ∧
    (s.txBusy = false → s.cfg.hasModulator = true → s.txen = false →
      exec (.wrTxdata x b) s = .next { s with faulted := some .txBeforeBegin, out := ⟨[], .none⟩ }) ∧
    (s.txBusy = false → s.cfg.hasModulator = true → s.txen = true →
      exec (.wrTxdata x b) s = .next
        { s with
          txFrame := frameOf b, txNbits := 13#4, txIdx := 0#4, txBusy := true,
          txHalf := BitVec.ofNat 16 s.cfg.highNom, txHalves := BitVec.ofNat 16 (2 * s.cfg.highCyc),
          txWait := 0#16, out := ⟨[], .none⟩ })

/-- 44_modulator.md R211: WR TXBIT: held, ignored, a fault, or the start of a transmission of one bit. -/
def Obligations.EmitBitRule : Prop :=
  ∀ (x : BitVec 15) (b : BitVec 1) (s : State),
    (s.txBusy = true → exec (.wrTxbit x b) s = .next { s with out := ⟨[], .held⟩ }) ∧
    (s.txBusy = false → s.cfg.hasModulator = false →
      exec (.wrTxbit x b) s = .next { s with out := ⟨[], .none⟩ }) ∧
    (s.txBusy = false → s.cfg.hasModulator = true → s.txen = false →
      exec (.wrTxbit x b) s = .next { s with faulted := some .txBeforeBegin, out := ⟨[], .none⟩ }) ∧
    (s.txBusy = false → s.cfg.hasModulator = true → s.txen = true →
      exec (.wrTxbit x b) s = .next
        { s with
          txFrame := BitVec.ofNat 13 b.toNat, txNbits := 1#4, txIdx := 0#4, txBusy := true,
          txHalf := BitVec.ofNat 16 (if b = 1#1 then s.cfg.highNom else s.cfg.lowNom),
          txHalves := BitVec.ofNat 16 (if b = 1#1 then 2 * s.cfg.highCyc else 2 * s.cfg.lowCyc),
          txWait := 0#16, out := ⟨[], .none⟩ })

/-- 43_fifo_host.md R186: without a modulator the TX writes are ignored, whatever TXEN is. -/
def Obligations.TransmitIgnoredWithoutModulator : Prop :=
  ∀ s : State, s.txBusy = false → s.cfg.hasModulator = false →
    (∀ x b, exec (.wrTxdata x b) s = .next { s with out := ⟨[], .none⟩ }) ∧
    ∀ x b, exec (.wrTxbit x b) s = .next { s with out := ⟨[], .none⟩ }

/-- 44_modulator.md R213: TXSTEP, in full. -/
def Obligations.TxStepRule : Prop :=
  ∀ s : State,
    let halves : Half := if s.txWait = 0#16 then s.txHalves - 1#16 else s.txHalves
    let wait : Half := (if s.txWait = 0#16 then s.txHalf else s.txWait) - 1#16
    let u : State :=
      { s with
        txout := if s.txWait = 0#16 then !s.txout else s.txout
        txHalves := halves
        txWait := wait
        out := ⟨if s.txWait = 0#16 then [.txToggle (!s.txout)] else [], .none⟩ }
    let idx : BitVec 4 := s.txIdx + 1#4
    let x := s.txFrame.getLsbD idx.toNat
    (¬ (wait = 0#16 ∧ halves = 0#16) → exec .txstep s = .next u) ∧
    (wait = 0#16 → halves = 0#16 → idx.toNat < s.txNbits.toNat →
      exec .txstep s = .next
        { u with
          txIdx := idx
          txHalf := BitVec.ofNat 16 (if x then s.cfg.highNom else s.cfg.lowNom)
          txHalves := BitVec.ofNat 16 (if x then 2 * s.cfg.highCyc else 2 * s.cfg.lowCyc)
          txWait := 0#16 }) ∧
    (wait = 0#16 → halves = 0#16 → s.txNbits.toNat ≤ idx.toNat →
      exec .txstep s = .next { u with txIdx := idx, txBusy := false })

/-- 44_modulator.md R217: after a writeByte (f = the frame, 13 bits) or an emitBit (f = the bit, 1 bit), bit k's
crossings are at the TICKs numbered S_k + 1 + j NOM(f[k]), and no others; TX_BUSY is 1 before the TICK numbered
S_NBITS and 0 from it on, with TXOUT back at its level. (The spec
marks the rule as derived.) -/
def Obligations.TransmissionTiming : Prop :=
  ∀ (s u : State) (f : BitVec 13) (n : Nat),
    s.cfg.Valid → s.cfg.TonesFit → s.txBusy = false → s.cfg.hasModulator = true → s.txen = true →
    ((∃ x b, exec (.wrTxdata x b) s = .next u ∧ f = frameOf b ∧ n = 13) ∨
      ∃ x b, exec (.wrTxbit x b) s = .next u ∧ f = BitVec.ofNat 13 b.toNat ∧ n = 1) →
    (∀ k, k < n → ∀ r, r < toneTicks s.cfg (f.getLsbD k) →
      (toggles (afterTicks (bitStart s.cfg f k + r + 1) u) = true ↔
        r % toneNom s.cfg (f.getLsbD k) = 0)) ∧
    (∀ m, m < bitStart s.cfg f n → (afterTicks m u).txBusy = true) ∧
    (afterTicks (bitStart s.cfg f n) u).txBusy = false ∧
    (afterTicks (bitStart s.cfg f n) u).txout = s.txout

/-- 30_encoding.md R93: after a `WRITEBYTE b` accepted between two ticks, TONEFRAME b is the loopback of the line,
tick for tick: a TICK, and an EDGE after it exactly where that TICK toggles TXOUT. -/
def Obligations.ToneFrameIsTheLoopback : Prop :=
  ∀ (s u : State) (x : BitVec 8) (b : Byte),
    s.cfg.Valid → s.cfg.TonesFit → s.txBusy = false → s.cfg.hasModulator = true → s.txen = true →
    exec (.wrTxdata x b) s = .next u →
    toneFrameWords s.cfg b =
      (List.range (bitStart s.cfg (frameOf b) 13)).flatMap fun k =>
        if toggles (afterTicks (k + 1) u) then [0x000000#24, 0x400000#24] else [0x000000#24]

/-! ### The whole machine -/

/-- The invariant of Safety.lean is kept by every step. -/
def Obligations.InvariantKeptByEveryStep : Prop :=
  ∀ s t : State, Inv s → step s = .next t → Inv t

/-- The machine after reset has the invariant. -/
def Obligations.InvariantHoldsAtReset : Prop := Inv State.reset

/-- Every block that construction gives has the invariant. -/
def Obligations.InvariantHoldsAtConstruction : Prop :=
  ∀ p s, construct p = .ok s → Inv s

/-- 10_state.md R20: no step writes the configuration. -/
def Obligations.ConfigurationNeverChanges : Prop :=
  ∀ s t : State, step s = .next t → t.cfg = s.cfg

/-- 10_state.md R20 to R31, R33 to R36, R38 to R45, R48, R59: which instructions may change which register, and to
what where R59 says it; the classifier only adds to the counters, but for HIGH_COUNT at start detection, and a
sample only clears them. FRAME_STATE (R32) has a statement of its own, and so has hardware reset, which is no
instruction. -/
def Obligations.RegisterWriters : Prop :=
  ∀ (i : Instr) (s t : State), exec i s = .next t →
    let begins := ∃ x, i = .wrCtrlBegin x
    let ends := ∃ x, i = .wrCtrlEnd x
    let transmits := (∃ x b, i = .wrTxdata x b) ∨ ∃ x b, i = .wrTxbit x b
    let samples := i = .tick ∨ i = .sample
    let generates := i = .tick ∨ i = .txstep
    t.cfg = s.cfg ∧
    (t.tcnt ≠ s.tcnt → i = .tick) ∧
    (t.ovf ≠ s.ovf → i = .tick ∧ t.ovf = true ∨ (i = .edge ∨ begins) ∧ t.ovf = false) ∧
    (t.ocr ≠ s.ocr → i = .edge ∨ samples) ∧
    (t.sampleEn ≠ s.sampleEn →
      i = .edge ∧ s.en = true ∧ t.sampleEn = true ∨ (samples ∨ begins ∨ ends) ∧ t.sampleEn = false) ∧
    (t.en ≠ s.en → begins ∧ t.en = true ∨ ends ∧ t.en = false) ∧
    (t.txen ≠ s.txen → begins ∧ t.txen = true) ∧
    (t.lastTick ≠ s.lastTick → i = .edge ∨ begins) ∧
    (t.prevSmooth ≠ s.prevSmooth → i = .edge ∨ begins) ∧
    (t.lowCount ≠ s.lowCount →
      i = .edge ∧ t.lowCount = s.lowCount + t.prevSmooth ∨ (samples ∨ begins) ∧ t.lowCount = 0#16) ∧
    (t.highCount ≠ s.highCount →
      i = .edge ∧ (t.highCount = s.highCount + t.prevSmooth ∨ t.highCount = 0#16 ∧ t.frameState = .start) ∨
        (samples ∨ begins) ∧ t.highCount = 0#16) ∧
    (t.bwo ≠ s.bwo → i = .edge) ∧
    (t.rxShift ≠ s.rxShift → samples ∨ (i = .edge ∨ begins) ∧ t.rxShift = 0#8) ∧
    (t.head ≠ s.head → i = .rdRxdata ∨ i = .fifoPop) ∧
    (t.tail ≠ s.tail ∨ t.buf ≠ s.buf → samples ∨ ∃ v, i = .fifoPush v) ∧
    (t.txBusy ≠ s.txBusy → transmits ∧ t.txBusy = true ∨ generates ∧ t.txBusy = false) ∧
    (t.txFrame ≠ s.txFrame ∨ t.txNbits ≠ s.txNbits → transmits) ∧
    (t.txIdx ≠ s.txIdx ∨ t.txHalves ≠ s.txHalves ∨ t.txWait ≠ s.txWait ∨ t.txHalf ≠ s.txHalf →
      transmits ∨ generates) ∧
    (t.txout ≠ s.txout → generates) ∧
    (t.faulted ≠ s.faulted →
      (∃ w, i = .illegal w) ∧ t.faulted = some .illegalStimulus ∨
        transmits ∧ s.txen = false ∧ t.faulted = some .txBeforeBegin) ∧
    t.stimuli = s.stimuli ∧ t.resetCount = s.resetCount

/-- 44_modulator.md R213: TXSTEP reads none of the receive state, and the receiver reads none of the TX state. -/
def Obligations.ReceiverAndTransmitterIndependent : Prop :=
  (∀ s s' t t' : State, SameReceiver s s' →
    (exec .tick s = .next t → exec .tick s' = .next t' → SameReceiver t t') ∧
    (exec .edge s = .next t → exec .edge s' = .next t' → SameReceiver t t') ∧
    (exec .sample s = .next t → exec .sample s' = .next t' → SameReceiver t t')) ∧
  (∀ s s' t t' : State, SameTransmitter s s' →
    (exec .tick s = .next t → exec .tick s' = .next t' → SameTransmitter t t') ∧
    (exec .txstep s = .next t → exec .txstep s' = .next t' → SameTransmitter t t')) ∧
  ∀ s t : State,
    (exec .txstep s = .next t → SameReceiver s t) ∧
    (exec .edge s = .next t → SameTransmitter s t) ∧ (exec .sample s = .next t → SameTransmitter s t)

/-- 10_state.md R46, 60_exceptions.md R237: no rule reads the events or the response of an earlier step. -/
def Obligations.ObservationsAreNeverRead : Prop :=
  ∀ (i : Instr) (s : State) (o : Output), exec i { s with out := o } = exec i s
end

