-- ==== Sys2Proof/Laws/Decode.lean ====
section
/-! SUPPORT. The fields of the words the encoder writes, the words the fields make, and what the decoder reads from
the words of register accesses. -/

namespace Sys2Proof

/-- A word is made of its four fields. -/
theorem word_of_fields (w : StimulusWord) :
    w = ((kindField w).setWidth 24 <<< 22) ||| ((rsvField w).setWidth 24 <<< 20) |||
      ((addrField w).setWidth 24 <<< 16) ||| (dataField w).setWidth 24 := by
  ext i hi
  simp only [kindField, rsvField, addrField, dataField]
  interval_cases i <;> simp

theorem kind_cases (k : BitVec 2) : k = 0b00#2 ∨ k = 0b01#2 ∨ k = 0b10#2 ∨ k = 0b11#2 := by
  revert k; decide

/-- What R82's masks select, in the fields of R80. -/
theorem mask_kind (w : StimulusWord) : w &&& 0xC00000#24 = (kindField w).setWidth 24 <<< 22 := by
  ext i hi
  simp only [kindField]
  interval_cases i <;> simp

theorem mask_rsv (w : StimulusWord) : w &&& 0x300000#24 = (rsvField w).setWidth 24 <<< 20 := by
  ext i hi
  simp only [rsvField]
  interval_cases i <;> simp

theorem mask_data (w : StimulusWord) : w &&& 0x00FFFF#24 = (dataField w).setWidth 24 := by
  ext i hi
  simp only [dataField]
  interval_cases i <;> simp

theorem mask_addr_data (w : StimulusWord) :
    w &&& 0x0FFFFF#24 = ((addrField w).setWidth 24 <<< 16) ||| (dataField w).setWidth 24 := by
  ext i hi
  simp only [dataField, addrField]
  interval_cases i <;> simp

theorem setWidth_data_eq_zero (d : Half) : d.setWidth 24 = 0#24 ↔ d = 0#16 := by
  constructor
  · intro h
    have := congrArg (BitVec.setWidth 16) h
    rwa [BitVec.setWidth_setWidth_of_le _ (by decide), BitVec.setWidth_eq] at this
  · rintro rfl; rfl

theorem addr_data_eq_zero (a : BitVec 4) (d : Half) :
    (a.setWidth 24 <<< 16) ||| d.setWidth 24 = 0#24 ↔ a = 0#4 ∧ d = 0#16 := by
  rw [BitVec.or_eq_zero_iff, setWidth_data_eq_zero]
  exact and_congr_left' (by revert a; decide)

/-- R82 in the fields of R80. -/
theorem legalWord_iff (w : StimulusWord) :
    legalWord w = true ↔
      rsvField w = 0#2 ∧
        (kindField w = 0b11#2 ∨ (kindField w = 0b10#2 ∧ dataField w = 0#16) ∨
          (addrField w = 0#4 ∧ dataField w = 0#16)) := by
  have hr : ∀ r : BitVec 2, r.setWidth 24 <<< 20 = 0#24 ↔ r = 0#2 := by decide
  have h3 : ∀ k : BitVec 2, k.setWidth 24 <<< 22 = 0xC00000#24 ↔ k = 0b11#2 := by decide
  have h2 : ∀ k : BitVec 2, k.setWidth 24 <<< 22 = 0x800000#24 ↔ k = 0b10#2 := by decide
  simp only [legalWord, Bool.and_eq_true, Bool.or_eq_true, beq_iff_eq, mask_rsv, mask_kind, mask_data,
    mask_addr_data, hr, h3, h2, setWidth_data_eq_zero, addr_data_eq_zero, or_assoc]
theorem writeWord_fields (a : BitVec 4) (d : Half) :
    rsvField (writeWord a d) = 0#2 ∧ kindField (writeWord a d) = 0b11#2 ∧ addrField (writeWord a d) = a ∧
    dataField (writeWord a d) = d := by
  refine ⟨?_, ?_, ?_, ?_⟩ <;> ext i hi <;>
    simp only [rsvField, kindField, addrField, dataField, writeWord] <;> interval_cases i <;> simp

theorem readWord_fields (a : BitVec 4) :
    rsvField (readWord a) = 0#2 ∧ kindField (readWord a) = 0b10#2 ∧ addrField (readWord a) = a ∧
    dataField (readWord a) = 0#16 := by
  revert a; decide

theorem decode_writeWord (a : BitVec 4) (d : Half) : decode (writeWord a d) = decodeWrite a d := by
  obtain ⟨h1, h2, h3, h4⟩ := writeWord_fields a d
  simp [decode, h1, h2, h3, h4]

theorem decode_readWord (a : BitVec 4) : decode (readWord a) = decodeRead a := by
  obtain ⟨h1, h2, h3, h4⟩ := readWord_fields a
  simp [decode, h1, h2, h3, h4]

theorem dataOfBit_fields (x : BitVec 15) (b : BitVec 1) :
    dataHigh15 (dataOfBit x b) = x ∧ dataBit0 (dataOfBit x b) = b := by
  constructor <;> ext i hi <;> simp only [dataHigh15, dataBit0, dataOfBit] <;> interval_cases i <;> simp

theorem dataOfByte_fields (x b : BitVec 8) :
    dataHighByte (dataOfByte x b) = x ∧ dataLowByte (dataOfByte x b) = b := by
  constructor <;> ext i hi <;> simp only [dataHighByte, dataLowByte, dataOfByte] <;> interval_cases i <;> simp

theorem dataOfBit_eta (d : Half) : dataOfBit (dataHigh15 d) (dataBit0 d) = d := by
  ext i hi
  simp only [dataHigh15, dataBit0, dataOfBit]
  interval_cases i <;> simp

theorem dataOfByte_eta (d : Half) : dataOfByte (dataHighByte d) (dataLowByte d) = d := by
  ext i hi
  simp only [dataHighByte, dataLowByte, dataOfByte]
  interval_cases i <;> simp

end Sys2Proof
end

