-- ==== Sys2Proof/Laws/State.lean ====
section
/-! SUPPORT. The fields of the state after each named update: one lemma a field, true by rfl. -/

namespace Sys2Proof.Machine

/-! ### State.quiet -/

@[simp] theorem State.quiet_cfg (s : State) : (s.quiet).cfg = s.cfg := rfl
@[simp] theorem State.quiet_tcnt (s : State) : (s.quiet).tcnt = s.tcnt := rfl
@[simp] theorem State.quiet_ovf (s : State) : (s.quiet).ovf = s.ovf := rfl
@[simp] theorem State.quiet_ocr (s : State) : (s.quiet).ocr = s.ocr := rfl
@[simp] theorem State.quiet_sampleEn (s : State) : (s.quiet).sampleEn = s.sampleEn := rfl
@[simp] theorem State.quiet_en (s : State) : (s.quiet).en = s.en := rfl
@[simp] theorem State.quiet_txen (s : State) : (s.quiet).txen = s.txen := rfl
@[simp] theorem State.quiet_lastTick (s : State) : (s.quiet).lastTick = s.lastTick := rfl
@[simp] theorem State.quiet_prevSmooth (s : State) : (s.quiet).prevSmooth = s.prevSmooth := rfl
@[simp] theorem State.quiet_lowCount (s : State) : (s.quiet).lowCount = s.lowCount := rfl
@[simp] theorem State.quiet_highCount (s : State) : (s.quiet).highCount = s.highCount := rfl
@[simp] theorem State.quiet_bwo (s : State) : (s.quiet).bwo = s.bwo := rfl
@[simp] theorem State.quiet_frameState (s : State) : (s.quiet).frameState = s.frameState := rfl
@[simp] theorem State.quiet_rxShift (s : State) : (s.quiet).rxShift = s.rxShift := rfl
@[simp] theorem State.quiet_buf (s : State) : (s.quiet).buf = s.buf := rfl
@[simp] theorem State.quiet_head (s : State) : (s.quiet).head = s.head := rfl
@[simp] theorem State.quiet_tail (s : State) : (s.quiet).tail = s.tail := rfl
@[simp] theorem State.quiet_txBusy (s : State) : (s.quiet).txBusy = s.txBusy := rfl
@[simp] theorem State.quiet_txFrame (s : State) : (s.quiet).txFrame = s.txFrame := rfl
@[simp] theorem State.quiet_txNbits (s : State) : (s.quiet).txNbits = s.txNbits := rfl
@[simp] theorem State.quiet_txIdx (s : State) : (s.quiet).txIdx = s.txIdx := rfl
@[simp] theorem State.quiet_txHalves (s : State) : (s.quiet).txHalves = s.txHalves := rfl
@[simp] theorem State.quiet_txWait (s : State) : (s.quiet).txWait = s.txWait := rfl
@[simp] theorem State.quiet_txHalf (s : State) : (s.quiet).txHalf = s.txHalf := rfl
@[simp] theorem State.quiet_txout (s : State) : (s.quiet).txout = s.txout := rfl
@[simp] theorem State.quiet_faulted (s : State) : (s.quiet).faulted = s.faulted := rfl
@[simp] theorem State.quiet_out (s : State) : (s.quiet).out = ⟨[], .none⟩ := rfl
@[simp] theorem State.quiet_stimuli (s : State) : (s.quiet).stimuli = s.stimuli := rfl
@[simp] theorem State.quiet_resetCount (s : State) : (s.quiet).resetCount = s.resetCount := rfl

/-! ### State.emit -/

@[simp] theorem State.emit_cfg (e : Event) (s : State) : (s.emit e).cfg = s.cfg := rfl
@[simp] theorem State.emit_tcnt (e : Event) (s : State) : (s.emit e).tcnt = s.tcnt := rfl
@[simp] theorem State.emit_ovf (e : Event) (s : State) : (s.emit e).ovf = s.ovf := rfl
@[simp] theorem State.emit_ocr (e : Event) (s : State) : (s.emit e).ocr = s.ocr := rfl
@[simp] theorem State.emit_sampleEn (e : Event) (s : State) : (s.emit e).sampleEn = s.sampleEn := rfl
@[simp] theorem State.emit_en (e : Event) (s : State) : (s.emit e).en = s.en := rfl
@[simp] theorem State.emit_txen (e : Event) (s : State) : (s.emit e).txen = s.txen := rfl
@[simp] theorem State.emit_lastTick (e : Event) (s : State) : (s.emit e).lastTick = s.lastTick := rfl
@[simp] theorem State.emit_prevSmooth (e : Event) (s : State) : (s.emit e).prevSmooth = s.prevSmooth := rfl
@[simp] theorem State.emit_lowCount (e : Event) (s : State) : (s.emit e).lowCount = s.lowCount := rfl
@[simp] theorem State.emit_highCount (e : Event) (s : State) : (s.emit e).highCount = s.highCount := rfl
@[simp] theorem State.emit_bwo (e : Event) (s : State) : (s.emit e).bwo = s.bwo := rfl
@[simp] theorem State.emit_frameState (e : Event) (s : State) : (s.emit e).frameState = s.frameState := rfl
@[simp] theorem State.emit_rxShift (e : Event) (s : State) : (s.emit e).rxShift = s.rxShift := rfl
@[simp] theorem State.emit_buf (e : Event) (s : State) : (s.emit e).buf = s.buf := rfl
@[simp] theorem State.emit_head (e : Event) (s : State) : (s.emit e).head = s.head := rfl
@[simp] theorem State.emit_tail (e : Event) (s : State) : (s.emit e).tail = s.tail := rfl
@[simp] theorem State.emit_txBusy (e : Event) (s : State) : (s.emit e).txBusy = s.txBusy := rfl
@[simp] theorem State.emit_txFrame (e : Event) (s : State) : (s.emit e).txFrame = s.txFrame := rfl
@[simp] theorem State.emit_txNbits (e : Event) (s : State) : (s.emit e).txNbits = s.txNbits := rfl
@[simp] theorem State.emit_txIdx (e : Event) (s : State) : (s.emit e).txIdx = s.txIdx := rfl
@[simp] theorem State.emit_txHalves (e : Event) (s : State) : (s.emit e).txHalves = s.txHalves := rfl
@[simp] theorem State.emit_txWait (e : Event) (s : State) : (s.emit e).txWait = s.txWait := rfl
@[simp] theorem State.emit_txHalf (e : Event) (s : State) : (s.emit e).txHalf = s.txHalf := rfl
@[simp] theorem State.emit_txout (e : Event) (s : State) : (s.emit e).txout = s.txout := rfl
@[simp] theorem State.emit_faulted (e : Event) (s : State) : (s.emit e).faulted = s.faulted := rfl
@[simp] theorem State.emit_out_events (e : Event) (s : State) : (s.emit e).out.events = s.out.events ++ [e] := rfl
@[simp] theorem State.emit_out_response (e : Event) (s : State) : (s.emit e).out.response = s.out.response := rfl
@[simp] theorem State.emit_stimuli (e : Event) (s : State) : (s.emit e).stimuli = s.stimuli := rfl
@[simp] theorem State.emit_resetCount (e : Event) (s : State) : (s.emit e).resetCount = s.resetCount := rfl

/-! ### State.respond -/

@[simp] theorem State.respond_cfg (r : Response) (s : State) : (s.respond r).cfg = s.cfg := rfl
@[simp] theorem State.respond_tcnt (r : Response) (s : State) : (s.respond r).tcnt = s.tcnt := rfl
@[simp] theorem State.respond_ovf (r : Response) (s : State) : (s.respond r).ovf = s.ovf := rfl
@[simp] theorem State.respond_ocr (r : Response) (s : State) : (s.respond r).ocr = s.ocr := rfl
@[simp] theorem State.respond_sampleEn (r : Response) (s : State) : (s.respond r).sampleEn = s.sampleEn := rfl
@[simp] theorem State.respond_en (r : Response) (s : State) : (s.respond r).en = s.en := rfl
@[simp] theorem State.respond_txen (r : Response) (s : State) : (s.respond r).txen = s.txen := rfl
@[simp] theorem State.respond_lastTick (r : Response) (s : State) : (s.respond r).lastTick = s.lastTick := rfl
@[simp] theorem State.respond_prevSmooth (r : Response) (s : State) : (s.respond r).prevSmooth = s.prevSmooth := rfl
@[simp] theorem State.respond_lowCount (r : Response) (s : State) : (s.respond r).lowCount = s.lowCount := rfl
@[simp] theorem State.respond_highCount (r : Response) (s : State) : (s.respond r).highCount = s.highCount := rfl
@[simp] theorem State.respond_bwo (r : Response) (s : State) : (s.respond r).bwo = s.bwo := rfl
@[simp] theorem State.respond_frameState (r : Response) (s : State) : (s.respond r).frameState = s.frameState := rfl
@[simp] theorem State.respond_rxShift (r : Response) (s : State) : (s.respond r).rxShift = s.rxShift := rfl
@[simp] theorem State.respond_buf (r : Response) (s : State) : (s.respond r).buf = s.buf := rfl
@[simp] theorem State.respond_head (r : Response) (s : State) : (s.respond r).head = s.head := rfl
@[simp] theorem State.respond_tail (r : Response) (s : State) : (s.respond r).tail = s.tail := rfl
@[simp] theorem State.respond_txBusy (r : Response) (s : State) : (s.respond r).txBusy = s.txBusy := rfl
@[simp] theorem State.respond_txFrame (r : Response) (s : State) : (s.respond r).txFrame = s.txFrame := rfl
@[simp] theorem State.respond_txNbits (r : Response) (s : State) : (s.respond r).txNbits = s.txNbits := rfl
@[simp] theorem State.respond_txIdx (r : Response) (s : State) : (s.respond r).txIdx = s.txIdx := rfl
@[simp] theorem State.respond_txHalves (r : Response) (s : State) : (s.respond r).txHalves = s.txHalves := rfl
@[simp] theorem State.respond_txWait (r : Response) (s : State) : (s.respond r).txWait = s.txWait := rfl
@[simp] theorem State.respond_txHalf (r : Response) (s : State) : (s.respond r).txHalf = s.txHalf := rfl
@[simp] theorem State.respond_txout (r : Response) (s : State) : (s.respond r).txout = s.txout := rfl
@[simp] theorem State.respond_faulted (r : Response) (s : State) : (s.respond r).faulted = s.faulted := rfl
@[simp] theorem State.respond_out_events (r : Response) (s : State) : (s.respond r).out.events = s.out.events := rfl
@[simp] theorem State.respond_out_response (r : Response) (s : State) : (s.respond r).out.response = r := rfl
@[simp] theorem State.respond_stimuli (r : Response) (s : State) : (s.respond r).stimuli = s.stimuli := rfl
@[simp] theorem State.respond_resetCount (r : Response) (s : State) : (s.respond r).resetCount = s.resetCount := rfl

/-! ### State.raise -/

@[simp] theorem State.raise_cfg (c : Fault) (s : State) : (s.raise c).cfg = s.cfg := rfl
@[simp] theorem State.raise_tcnt (c : Fault) (s : State) : (s.raise c).tcnt = s.tcnt := rfl
@[simp] theorem State.raise_ovf (c : Fault) (s : State) : (s.raise c).ovf = s.ovf := rfl
@[simp] theorem State.raise_ocr (c : Fault) (s : State) : (s.raise c).ocr = s.ocr := rfl
@[simp] theorem State.raise_sampleEn (c : Fault) (s : State) : (s.raise c).sampleEn = s.sampleEn := rfl
@[simp] theorem State.raise_en (c : Fault) (s : State) : (s.raise c).en = s.en := rfl
@[simp] theorem State.raise_txen (c : Fault) (s : State) : (s.raise c).txen = s.txen := rfl
@[simp] theorem State.raise_lastTick (c : Fault) (s : State) : (s.raise c).lastTick = s.lastTick := rfl
@[simp] theorem State.raise_prevSmooth (c : Fault) (s : State) : (s.raise c).prevSmooth = s.prevSmooth := rfl
@[simp] theorem State.raise_lowCount (c : Fault) (s : State) : (s.raise c).lowCount = s.lowCount := rfl
@[simp] theorem State.raise_highCount (c : Fault) (s : State) : (s.raise c).highCount = s.highCount := rfl
@[simp] theorem State.raise_bwo (c : Fault) (s : State) : (s.raise c).bwo = s.bwo := rfl
@[simp] theorem State.raise_frameState (c : Fault) (s : State) : (s.raise c).frameState = s.frameState := rfl
@[simp] theorem State.raise_rxShift (c : Fault) (s : State) : (s.raise c).rxShift = s.rxShift := rfl
@[simp] theorem State.raise_buf (c : Fault) (s : State) : (s.raise c).buf = s.buf := rfl
@[simp] theorem State.raise_head (c : Fault) (s : State) : (s.raise c).head = s.head := rfl
@[simp] theorem State.raise_tail (c : Fault) (s : State) : (s.raise c).tail = s.tail := rfl
@[simp] theorem State.raise_txBusy (c : Fault) (s : State) : (s.raise c).txBusy = s.txBusy := rfl
@[simp] theorem State.raise_txFrame (c : Fault) (s : State) : (s.raise c).txFrame = s.txFrame := rfl
@[simp] theorem State.raise_txNbits (c : Fault) (s : State) : (s.raise c).txNbits = s.txNbits := rfl
@[simp] theorem State.raise_txIdx (c : Fault) (s : State) : (s.raise c).txIdx = s.txIdx := rfl
@[simp] theorem State.raise_txHalves (c : Fault) (s : State) : (s.raise c).txHalves = s.txHalves := rfl
@[simp] theorem State.raise_txWait (c : Fault) (s : State) : (s.raise c).txWait = s.txWait := rfl
@[simp] theorem State.raise_txHalf (c : Fault) (s : State) : (s.raise c).txHalf = s.txHalf := rfl
@[simp] theorem State.raise_txout (c : Fault) (s : State) : (s.raise c).txout = s.txout := rfl
@[simp] theorem State.raise_faulted (c : Fault) (s : State) : (s.raise c).faulted = some c := rfl
@[simp] theorem State.raise_out (c : Fault) (s : State) : (s.raise c).out = s.out := rfl
@[simp] theorem State.raise_stimuli (c : Fault) (s : State) : (s.raise c).stimuli = s.stimuli := rfl
@[simp] theorem State.raise_resetCount (c : Fault) (s : State) : (s.raise c).resetCount = s.resetCount := rfl

/-! ### countTick -/

@[simp] theorem countTick_cfg (s : State) : (countTick s).cfg = s.cfg := rfl
@[simp] theorem countTick_tcnt (s : State) : (countTick s).tcnt = BitVec.ofNat 15 (nextCount s) := rfl
@[simp] theorem countTick_ovf (s : State) : (countTick s).ovf = overflowAfterTick s := rfl
@[simp] theorem countTick_ocr (s : State) : (countTick s).ocr = s.ocr := rfl
@[simp] theorem countTick_sampleEn (s : State) : (countTick s).sampleEn = s.sampleEn := rfl
@[simp] theorem countTick_en (s : State) : (countTick s).en = s.en := rfl
@[simp] theorem countTick_txen (s : State) : (countTick s).txen = s.txen := rfl
@[simp] theorem countTick_lastTick (s : State) : (countTick s).lastTick = s.lastTick := rfl
@[simp] theorem countTick_prevSmooth (s : State) : (countTick s).prevSmooth = s.prevSmooth := rfl
@[simp] theorem countTick_lowCount (s : State) : (countTick s).lowCount = s.lowCount := rfl
@[simp] theorem countTick_highCount (s : State) : (countTick s).highCount = s.highCount := rfl
@[simp] theorem countTick_bwo (s : State) : (countTick s).bwo = s.bwo := rfl
@[simp] theorem countTick_frameState (s : State) : (countTick s).frameState = s.frameState := rfl
@[simp] theorem countTick_rxShift (s : State) : (countTick s).rxShift = s.rxShift := rfl
@[simp] theorem countTick_buf (s : State) : (countTick s).buf = s.buf := rfl
@[simp] theorem countTick_head (s : State) : (countTick s).head = s.head := rfl
@[simp] theorem countTick_tail (s : State) : (countTick s).tail = s.tail := rfl
@[simp] theorem countTick_txBusy (s : State) : (countTick s).txBusy = s.txBusy := rfl
@[simp] theorem countTick_txFrame (s : State) : (countTick s).txFrame = s.txFrame := rfl
@[simp] theorem countTick_txNbits (s : State) : (countTick s).txNbits = s.txNbits := rfl
@[simp] theorem countTick_txIdx (s : State) : (countTick s).txIdx = s.txIdx := rfl
@[simp] theorem countTick_txHalves (s : State) : (countTick s).txHalves = s.txHalves := rfl
@[simp] theorem countTick_txWait (s : State) : (countTick s).txWait = s.txWait := rfl
@[simp] theorem countTick_txHalf (s : State) : (countTick s).txHalf = s.txHalf := rfl
@[simp] theorem countTick_txout (s : State) : (countTick s).txout = s.txout := rfl
@[simp] theorem countTick_faulted (s : State) : (countTick s).faulted = s.faulted := rfl
@[simp] theorem countTick_out (s : State) : (countTick s).out = s.out := rfl
@[simp] theorem countTick_stimuli (s : State) : (countTick s).stimuli = s.stimuli := rfl
@[simp] theorem countTick_resetCount (s : State) : (countTick s).resetCount = s.resetCount := rfl

/-! ### acceptCrossing -/

@[simp] theorem acceptCrossing_cfg (raw : Nat) (s : State) : (acceptCrossing raw s).cfg = s.cfg := rfl
@[simp] theorem acceptCrossing_tcnt (raw : Nat) (s : State) : (acceptCrossing raw s).tcnt = s.tcnt := rfl
@[simp] theorem acceptCrossing_ovf (raw : Nat) (s : State) : (acceptCrossing raw s).ovf = false := rfl
@[simp] theorem acceptCrossing_ocr (raw : Nat) (s : State) : (acceptCrossing raw s).ocr = s.ocr := rfl
@[simp] theorem acceptCrossing_sampleEn (raw : Nat) (s : State) : (acceptCrossing raw s).sampleEn = s.sampleEn := rfl
@[simp] theorem acceptCrossing_en (raw : Nat) (s : State) : (acceptCrossing raw s).en = s.en := rfl
@[simp] theorem acceptCrossing_txen (raw : Nat) (s : State) : (acceptCrossing raw s).txen = s.txen := rfl
@[simp] theorem acceptCrossing_lastTick (raw : Nat) (s : State) : (acceptCrossing raw s).lastTick = s.tcnt := rfl
@[simp] theorem acceptCrossing_prevSmooth (raw : Nat) (s : State) : (acceptCrossing raw s).prevSmooth = smoothed raw s.prevSmooth := rfl
@[simp] theorem acceptCrossing_lowCount (raw : Nat) (s : State) : (acceptCrossing raw s).lowCount = s.lowCount := rfl
@[simp] theorem acceptCrossing_highCount (raw : Nat) (s : State) : (acceptCrossing raw s).highCount = s.highCount := rfl
@[simp] theorem acceptCrossing_bwo (raw : Nat) (s : State) : (acceptCrossing raw s).bwo = s.bwo := rfl
@[simp] theorem acceptCrossing_frameState (raw : Nat) (s : State) : (acceptCrossing raw s).frameState = s.frameState := rfl
@[simp] theorem acceptCrossing_rxShift (raw : Nat) (s : State) : (acceptCrossing raw s).rxShift = s.rxShift := rfl
@[simp] theorem acceptCrossing_buf (raw : Nat) (s : State) : (acceptCrossing raw s).buf = s.buf := rfl
@[simp] theorem acceptCrossing_head (raw : Nat) (s : State) : (acceptCrossing raw s).head = s.head := rfl
@[simp] theorem acceptCrossing_tail (raw : Nat) (s : State) : (acceptCrossing raw s).tail = s.tail := rfl
@[simp] theorem acceptCrossing_txBusy (raw : Nat) (s : State) : (acceptCrossing raw s).txBusy = s.txBusy := rfl
@[simp] theorem acceptCrossing_txFrame (raw : Nat) (s : State) : (acceptCrossing raw s).txFrame = s.txFrame := rfl
@[simp] theorem acceptCrossing_txNbits (raw : Nat) (s : State) : (acceptCrossing raw s).txNbits = s.txNbits := rfl
@[simp] theorem acceptCrossing_txIdx (raw : Nat) (s : State) : (acceptCrossing raw s).txIdx = s.txIdx := rfl
@[simp] theorem acceptCrossing_txHalves (raw : Nat) (s : State) : (acceptCrossing raw s).txHalves = s.txHalves := rfl
@[simp] theorem acceptCrossing_txWait (raw : Nat) (s : State) : (acceptCrossing raw s).txWait = s.txWait := rfl
@[simp] theorem acceptCrossing_txHalf (raw : Nat) (s : State) : (acceptCrossing raw s).txHalf = s.txHalf := rfl
@[simp] theorem acceptCrossing_txout (raw : Nat) (s : State) : (acceptCrossing raw s).txout = s.txout := rfl
@[simp] theorem acceptCrossing_faulted (raw : Nat) (s : State) : (acceptCrossing raw s).faulted = s.faulted := rfl
@[simp] theorem acceptCrossing_out (raw : Nat) (s : State) : (acceptCrossing raw s).out = s.out := rfl
@[simp] theorem acceptCrossing_stimuli (raw : Nat) (s : State) : (acceptCrossing raw s).stimuli = s.stimuli := rfl
@[simp] theorem acceptCrossing_resetCount (raw : Nat) (s : State) : (acceptCrossing raw s).resetCount = s.resetCount := rfl

/-! ### loadBit -/

@[simp] theorem loadBit_cfg (x : Bool) (s : State) : (loadBit x s).cfg = s.cfg := rfl
@[simp] theorem loadBit_tcnt (x : Bool) (s : State) : (loadBit x s).tcnt = s.tcnt := rfl
@[simp] theorem loadBit_ovf (x : Bool) (s : State) : (loadBit x s).ovf = s.ovf := rfl
@[simp] theorem loadBit_ocr (x : Bool) (s : State) : (loadBit x s).ocr = s.ocr := rfl
@[simp] theorem loadBit_sampleEn (x : Bool) (s : State) : (loadBit x s).sampleEn = s.sampleEn := rfl
@[simp] theorem loadBit_en (x : Bool) (s : State) : (loadBit x s).en = s.en := rfl
@[simp] theorem loadBit_txen (x : Bool) (s : State) : (loadBit x s).txen = s.txen := rfl
@[simp] theorem loadBit_lastTick (x : Bool) (s : State) : (loadBit x s).lastTick = s.lastTick := rfl
@[simp] theorem loadBit_prevSmooth (x : Bool) (s : State) : (loadBit x s).prevSmooth = s.prevSmooth := rfl
@[simp] theorem loadBit_lowCount (x : Bool) (s : State) : (loadBit x s).lowCount = s.lowCount := rfl
@[simp] theorem loadBit_highCount (x : Bool) (s : State) : (loadBit x s).highCount = s.highCount := rfl
@[simp] theorem loadBit_bwo (x : Bool) (s : State) : (loadBit x s).bwo = s.bwo := rfl
@[simp] theorem loadBit_frameState (x : Bool) (s : State) : (loadBit x s).frameState = s.frameState := rfl
@[simp] theorem loadBit_rxShift (x : Bool) (s : State) : (loadBit x s).rxShift = s.rxShift := rfl
@[simp] theorem loadBit_buf (x : Bool) (s : State) : (loadBit x s).buf = s.buf := rfl
@[simp] theorem loadBit_head (x : Bool) (s : State) : (loadBit x s).head = s.head := rfl
@[simp] theorem loadBit_tail (x : Bool) (s : State) : (loadBit x s).tail = s.tail := rfl
@[simp] theorem loadBit_txBusy (x : Bool) (s : State) : (loadBit x s).txBusy = s.txBusy := rfl
@[simp] theorem loadBit_txFrame (x : Bool) (s : State) : (loadBit x s).txFrame = s.txFrame := rfl
@[simp] theorem loadBit_txNbits (x : Bool) (s : State) : (loadBit x s).txNbits = s.txNbits := rfl
@[simp] theorem loadBit_txIdx (x : Bool) (s : State) : (loadBit x s).txIdx = s.txIdx := rfl
@[simp] theorem loadBit_txHalves (x : Bool) (s : State) : (loadBit x s).txHalves = BitVec.ofNat 16 (2 * toneCyc s.cfg x) := rfl
@[simp] theorem loadBit_txWait (x : Bool) (s : State) : (loadBit x s).txWait = 0#16 := rfl
@[simp] theorem loadBit_txHalf (x : Bool) (s : State) : (loadBit x s).txHalf = BitVec.ofNat 16 (toneNom s.cfg x) := rfl
@[simp] theorem loadBit_txout (x : Bool) (s : State) : (loadBit x s).txout = s.txout := rfl
@[simp] theorem loadBit_faulted (x : Bool) (s : State) : (loadBit x s).faulted = s.faulted := rfl
@[simp] theorem loadBit_out (x : Bool) (s : State) : (loadBit x s).out = s.out := rfl
@[simp] theorem loadBit_stimuli (x : Bool) (s : State) : (loadBit x s).stimuli = s.stimuli := rfl
@[simp] theorem loadBit_resetCount (x : Bool) (s : State) : (loadBit x s).resetCount = s.resetCount := rfl

/-! ### startTransmission -/

@[simp] theorem startTransmission_cfg (f : BitVec 13) (n : BitVec 4) (s : State) : (startTransmission f n s).cfg = s.cfg := rfl
@[simp] theorem startTransmission_tcnt (f : BitVec 13) (n : BitVec 4) (s : State) : (startTransmission f n s).tcnt = s.tcnt := rfl
@[simp] theorem startTransmission_ovf (f : BitVec 13) (n : BitVec 4) (s : State) : (startTransmission f n s).ovf = s.ovf := rfl
@[simp] theorem startTransmission_ocr (f : BitVec 13) (n : BitVec 4) (s : State) : (startTransmission f n s).ocr = s.ocr := rfl
@[simp] theorem startTransmission_sampleEn (f : BitVec 13) (n : BitVec 4) (s : State) : (startTransmission f n s).sampleEn = s.sampleEn := rfl
@[simp] theorem startTransmission_en (f : BitVec 13) (n : BitVec 4) (s : State) : (startTransmission f n s).en = s.en := rfl
@[simp] theorem startTransmission_txen (f : BitVec 13) (n : BitVec 4) (s : State) : (startTransmission f n s).txen = s.txen := rfl
@[simp] theorem startTransmission_lastTick (f : BitVec 13) (n : BitVec 4) (s : State) : (startTransmission f n s).lastTick = s.lastTick := rfl
@[simp] theorem startTransmission_prevSmooth (f : BitVec 13) (n : BitVec 4) (s : State) : (startTransmission f n s).prevSmooth = s.prevSmooth := rfl
@[simp] theorem startTransmission_lowCount (f : BitVec 13) (n : BitVec 4) (s : State) : (startTransmission f n s).lowCount = s.lowCount := rfl
@[simp] theorem startTransmission_highCount (f : BitVec 13) (n : BitVec 4) (s : State) : (startTransmission f n s).highCount = s.highCount := rfl
@[simp] theorem startTransmission_bwo (f : BitVec 13) (n : BitVec 4) (s : State) : (startTransmission f n s).bwo = s.bwo := rfl
@[simp] theorem startTransmission_frameState (f : BitVec 13) (n : BitVec 4) (s : State) : (startTransmission f n s).frameState = s.frameState := rfl
@[simp] theorem startTransmission_rxShift (f : BitVec 13) (n : BitVec 4) (s : State) : (startTransmission f n s).rxShift = s.rxShift := rfl
@[simp] theorem startTransmission_buf (f : BitVec 13) (n : BitVec 4) (s : State) : (startTransmission f n s).buf = s.buf := rfl
@[simp] theorem startTransmission_head (f : BitVec 13) (n : BitVec 4) (s : State) : (startTransmission f n s).head = s.head := rfl
@[simp] theorem startTransmission_tail (f : BitVec 13) (n : BitVec 4) (s : State) : (startTransmission f n s).tail = s.tail := rfl
@[simp] theorem startTransmission_txBusy (f : BitVec 13) (n : BitVec 4) (s : State) : (startTransmission f n s).txBusy = true := rfl
@[simp] theorem startTransmission_txFrame (f : BitVec 13) (n : BitVec 4) (s : State) : (startTransmission f n s).txFrame = f := rfl
@[simp] theorem startTransmission_txNbits (f : BitVec 13) (n : BitVec 4) (s : State) : (startTransmission f n s).txNbits = n := rfl
@[simp] theorem startTransmission_txIdx (f : BitVec 13) (n : BitVec 4) (s : State) : (startTransmission f n s).txIdx = 0#4 := rfl
@[simp] theorem startTransmission_txHalves (f : BitVec 13) (n : BitVec 4) (s : State) : (startTransmission f n s).txHalves = BitVec.ofNat 16 (2 * toneCyc s.cfg (f.getLsbD 0)) := rfl
@[simp] theorem startTransmission_txWait (f : BitVec 13) (n : BitVec 4) (s : State) : (startTransmission f n s).txWait = 0#16 := rfl
@[simp] theorem startTransmission_txHalf (f : BitVec 13) (n : BitVec 4) (s : State) : (startTransmission f n s).txHalf = BitVec.ofNat 16 (toneNom s.cfg (f.getLsbD 0)) := rfl
@[simp] theorem startTransmission_txout (f : BitVec 13) (n : BitVec 4) (s : State) : (startTransmission f n s).txout = s.txout := rfl
@[simp] theorem startTransmission_faulted (f : BitVec 13) (n : BitVec 4) (s : State) : (startTransmission f n s).faulted = s.faulted := rfl
@[simp] theorem startTransmission_out (f : BitVec 13) (n : BitVec 4) (s : State) : (startTransmission f n s).out = s.out := rfl
@[simp] theorem startTransmission_stimuli (f : BitVec 13) (n : BitVec 4) (s : State) : (startTransmission f n s).stimuli = s.stimuli := rfl
@[simp] theorem startTransmission_resetCount (f : BitVec 13) (n : BitVec 4) (s : State) : (startTransmission f n s).resetCount = s.resetCount := rfl

/-! ### beginOp -/

@[simp] theorem beginOp_cfg (s : State) : (beginOp s).cfg = s.cfg := rfl
@[simp] theorem beginOp_tcnt (s : State) : (beginOp s).tcnt = s.tcnt := rfl
@[simp] theorem beginOp_ovf (s : State) : (beginOp s).ovf = false := rfl
@[simp] theorem beginOp_ocr (s : State) : (beginOp s).ocr = s.ocr := rfl
@[simp] theorem beginOp_sampleEn (s : State) : (beginOp s).sampleEn = false := rfl
@[simp] theorem beginOp_en (s : State) : (beginOp s).en = true := rfl
@[simp] theorem beginOp_txen (s : State) : (beginOp s).txen = true := rfl
@[simp] theorem beginOp_lastTick (s : State) : (beginOp s).lastTick = s.tcnt := rfl
@[simp] theorem beginOp_prevSmooth (s : State) : (beginOp s).prevSmooth = 0#16 := rfl
@[simp] theorem beginOp_lowCount (s : State) : (beginOp s).lowCount = 0#16 := rfl
@[simp] theorem beginOp_highCount (s : State) : (beginOp s).highCount = 0#16 := rfl
@[simp] theorem beginOp_bwo (s : State) : (beginOp s).bwo = s.bwo := rfl
@[simp] theorem beginOp_frameState (s : State) : (beginOp s).frameState = .idle := rfl
@[simp] theorem beginOp_rxShift (s : State) : (beginOp s).rxShift = 0#8 := rfl
@[simp] theorem beginOp_buf (s : State) : (beginOp s).buf = s.buf := rfl
@[simp] theorem beginOp_head (s : State) : (beginOp s).head = s.head := rfl
@[simp] theorem beginOp_tail (s : State) : (beginOp s).tail = s.tail := rfl
@[simp] theorem beginOp_txBusy (s : State) : (beginOp s).txBusy = s.txBusy := rfl
@[simp] theorem beginOp_txFrame (s : State) : (beginOp s).txFrame = s.txFrame := rfl
@[simp] theorem beginOp_txNbits (s : State) : (beginOp s).txNbits = s.txNbits := rfl
@[simp] theorem beginOp_txIdx (s : State) : (beginOp s).txIdx = s.txIdx := rfl
@[simp] theorem beginOp_txHalves (s : State) : (beginOp s).txHalves = s.txHalves := rfl
@[simp] theorem beginOp_txWait (s : State) : (beginOp s).txWait = s.txWait := rfl
@[simp] theorem beginOp_txHalf (s : State) : (beginOp s).txHalf = s.txHalf := rfl
@[simp] theorem beginOp_txout (s : State) : (beginOp s).txout = s.txout := rfl
@[simp] theorem beginOp_faulted (s : State) : (beginOp s).faulted = s.faulted := rfl
@[simp] theorem beginOp_out (s : State) : (beginOp s).out = s.out := rfl
@[simp] theorem beginOp_stimuli (s : State) : (beginOp s).stimuli = s.stimuli := rfl
@[simp] theorem beginOp_resetCount (s : State) : (beginOp s).resetCount = s.resetCount := rfl

/-! ### endOp -/

@[simp] theorem endOp_cfg (s : State) : (endOp s).cfg = s.cfg := rfl
@[simp] theorem endOp_tcnt (s : State) : (endOp s).tcnt = s.tcnt := rfl
@[simp] theorem endOp_ovf (s : State) : (endOp s).ovf = s.ovf := rfl
@[simp] theorem endOp_ocr (s : State) : (endOp s).ocr = s.ocr := rfl
@[simp] theorem endOp_sampleEn (s : State) : (endOp s).sampleEn = false := rfl
@[simp] theorem endOp_en (s : State) : (endOp s).en = false := rfl
@[simp] theorem endOp_txen (s : State) : (endOp s).txen = s.txen := rfl
@[simp] theorem endOp_lastTick (s : State) : (endOp s).lastTick = s.lastTick := rfl
@[simp] theorem endOp_prevSmooth (s : State) : (endOp s).prevSmooth = s.prevSmooth := rfl
@[simp] theorem endOp_lowCount (s : State) : (endOp s).lowCount = s.lowCount := rfl
@[simp] theorem endOp_highCount (s : State) : (endOp s).highCount = s.highCount := rfl
@[simp] theorem endOp_bwo (s : State) : (endOp s).bwo = s.bwo := rfl
@[simp] theorem endOp_frameState (s : State) : (endOp s).frameState = s.frameState := rfl
@[simp] theorem endOp_rxShift (s : State) : (endOp s).rxShift = s.rxShift := rfl
@[simp] theorem endOp_buf (s : State) : (endOp s).buf = s.buf := rfl
@[simp] theorem endOp_head (s : State) : (endOp s).head = s.head := rfl
@[simp] theorem endOp_tail (s : State) : (endOp s).tail = s.tail := rfl
@[simp] theorem endOp_txBusy (s : State) : (endOp s).txBusy = s.txBusy := rfl
@[simp] theorem endOp_txFrame (s : State) : (endOp s).txFrame = s.txFrame := rfl
@[simp] theorem endOp_txNbits (s : State) : (endOp s).txNbits = s.txNbits := rfl
@[simp] theorem endOp_txIdx (s : State) : (endOp s).txIdx = s.txIdx := rfl
@[simp] theorem endOp_txHalves (s : State) : (endOp s).txHalves = s.txHalves := rfl
@[simp] theorem endOp_txWait (s : State) : (endOp s).txWait = s.txWait := rfl
@[simp] theorem endOp_txHalf (s : State) : (endOp s).txHalf = s.txHalf := rfl
@[simp] theorem endOp_txout (s : State) : (endOp s).txout = s.txout := rfl
@[simp] theorem endOp_faulted (s : State) : (endOp s).faulted = s.faulted := rfl
@[simp] theorem endOp_out (s : State) : (endOp s).out = s.out := rfl
@[simp] theorem endOp_stimuli (s : State) : (endOp s).stimuli = s.stimuli := rfl
@[simp] theorem endOp_resetCount (s : State) : (endOp s).resetCount = s.resetCount := rfl

/-! ### hardReset -/

@[simp] theorem hardReset_cfg (s : State) (draw : Nat) : (hardReset s draw).cfg = s.cfg := rfl
@[simp] theorem hardReset_tcnt (s : State) (draw : Nat) : (hardReset s draw).tcnt = BitVec.ofNat 15 (draw % s.cfg.m) := rfl
@[simp] theorem hardReset_ovf (s : State) (draw : Nat) : (hardReset s draw).ovf = false := rfl
@[simp] theorem hardReset_ocr (s : State) (draw : Nat) : (hardReset s draw).ocr = 0#15 := rfl
@[simp] theorem hardReset_sampleEn (s : State) (draw : Nat) : (hardReset s draw).sampleEn = false := rfl
@[simp] theorem hardReset_en (s : State) (draw : Nat) : (hardReset s draw).en = false := rfl
@[simp] theorem hardReset_txen (s : State) (draw : Nat) : (hardReset s draw).txen = false := rfl
@[simp] theorem hardReset_lastTick (s : State) (draw : Nat) : (hardReset s draw).lastTick = 0#15 := rfl
@[simp] theorem hardReset_prevSmooth (s : State) (draw : Nat) : (hardReset s draw).prevSmooth = 0#16 := rfl
@[simp] theorem hardReset_lowCount (s : State) (draw : Nat) : (hardReset s draw).lowCount = 0#16 := rfl
@[simp] theorem hardReset_highCount (s : State) (draw : Nat) : (hardReset s draw).highCount = 0#16 := rfl
@[simp] theorem hardReset_bwo (s : State) (draw : Nat) : (hardReset s draw).bwo = 0#15 := rfl
@[simp] theorem hardReset_frameState (s : State) (draw : Nat) : (hardReset s draw).frameState = .idle := rfl
@[simp] theorem hardReset_rxShift (s : State) (draw : Nat) : (hardReset s draw).rxShift = 0#8 := rfl
@[simp] theorem hardReset_buf (s : State) (draw : Nat) : (hardReset s draw).buf = [] := rfl
@[simp] theorem hardReset_head (s : State) (draw : Nat) : (hardReset s draw).head = 0#16 := rfl
@[simp] theorem hardReset_tail (s : State) (draw : Nat) : (hardReset s draw).tail = 0#16 := rfl
@[simp] theorem hardReset_txBusy (s : State) (draw : Nat) : (hardReset s draw).txBusy = false := rfl
@[simp] theorem hardReset_txFrame (s : State) (draw : Nat) : (hardReset s draw).txFrame = 0#13 := rfl
@[simp] theorem hardReset_txNbits (s : State) (draw : Nat) : (hardReset s draw).txNbits = 0#4 := rfl
@[simp] theorem hardReset_txIdx (s : State) (draw : Nat) : (hardReset s draw).txIdx = 0#4 := rfl
@[simp] theorem hardReset_txHalves (s : State) (draw : Nat) : (hardReset s draw).txHalves = 0#16 := rfl
@[simp] theorem hardReset_txWait (s : State) (draw : Nat) : (hardReset s draw).txWait = 0#16 := rfl
@[simp] theorem hardReset_txHalf (s : State) (draw : Nat) : (hardReset s draw).txHalf = 0#16 := rfl
@[simp] theorem hardReset_txout (s : State) (draw : Nat) : (hardReset s draw).txout = false := rfl
@[simp] theorem hardReset_faulted (s : State) (draw : Nat) : (hardReset s draw).faulted = s.faulted := rfl
@[simp] theorem hardReset_out (s : State) (draw : Nat) : (hardReset s draw).out = ⟨[], .none⟩ := rfl
@[simp] theorem hardReset_stimuli (s : State) (draw : Nat) : (hardReset s draw).stimuli = s.stimuli := rfl
@[simp] theorem hardReset_resetCount (s : State) (draw : Nat) : (hardReset s draw).resetCount = s.resetCount + 1 := rfl

end Sys2Proof.Machine
end

