-- ==== Sys2Proof/Laws/Ops.lean ====
section
/-! SUPPORT. One lemma for each shared operation that says all it can do, for later proofs to cite. -/

namespace Sys2Proof.Machine

/-! ### Modular subtraction -/

theorem subMod_lt {m : Nat} (a b : Nat) (h : 0 < m) : subMod a b m < m := by
  have h1 := Int.emod_nonneg ((a : Int) - b) (b := (m : Int)) (by omega)
  have h2 := Int.emod_lt_of_pos ((a : Int) - b) (b := (m : Int)) (by omega)
  unfold subMod
  omega

theorem subMod_cast {m : Nat} (a b : Nat) (h : 0 < m) :
    ((subMod a b m : Nat) : Int) = ((a : Int) - b) % m := by
  unfold subMod
  exact Int.toNat_of_nonneg (Int.emod_nonneg _ (by omega))

theorem subMod_of_le {a b m : Nat} (h : b ≤ a) (ha : a < m) : subMod a b m = a - b := by
  unfold subMod
  rw [Int.emod_eq_of_lt (by omega) (by omega)]
  omega

theorem subMod_of_lt {a b m : Nat} (h : a < b) (hb : b < m) : subMod a b m = m + a - b := by
  unfold subMod
  rw [← Int.add_emod_right, Int.emod_eq_of_lt (by omega) (by omega)]
  omega

/-- Below the modulus, the difference in one equation. -/
theorem subMod_eq {a b m : Nat} (ha : a < m) (hb : b < m) :
    subMod a b m = if b ≤ a then a - b else m + a - b := by
  split
  · exact subMod_of_le ‹_› ha
  · exact subMod_of_lt (by omega) hb

/-! ### Host accesses -/

theorem hostAccess_cases {s t : State} {act : State → State} (h : hostAccess s act = .next t) :
    (s.txBusy = true ∧ t = { s with out := ⟨[], .held⟩ }) ∨ (s.txBusy = false ∧ t = act s.quiet) := by
  unfold hostAccess at h
  rcases hb : s.txBusy <;> simp only [hb, if_true, if_false, Bool.false_eq_true] at h <;> cases h
  · exact .inr ⟨rfl, rfl⟩
  · exact .inl ⟨rfl, by rw [← hb]; rfl⟩

theorem hostAccess_free {s : State} (h : s.txBusy = false) (act : State → State) :
    hostAccess s act = .next (act s.quiet) := by
  unfold hostAccess; rw [h]; rfl

theorem hostAccess_busy {s : State} (h : s.txBusy = true) (act : State → State) :
    hostAccess s act = .next { s with out := ⟨[], .held⟩ } := by
  unfold hostAccess; rw [if_pos h]; rfl

theorem hostRead_free {s : State} (h : s.txBusy = false) (v : State → Half) :
    hostRead s v = .next { s with out := ⟨[], .value (v s.quiet)⟩ } := by
  unfold hostRead; rw [hostAccess_free h]; rfl

theorem hostRead_cases {s t : State} {v : State → Half} (h : hostRead s v = .next t) :
    ∃ r, t = { s with out := ⟨[], r⟩ } := by
  rcases hostAccess_cases h with ⟨_, rfl⟩ | ⟨_, rfl⟩ <;> exact ⟨_, rfl⟩

/-! ### The FIFO -/

theorem fifoFull_iff (s : State) :
    fifoFull s = true ↔ (s.tail.toNat + 1) % s.cfg.depth = s.head.toNat := by
  simp [fifoFull]

theorem fifoEmpty_iff (s : State) : fifoEmpty s = true ↔ s.head = s.tail := by
  simp [fifoEmpty]

/-- A push, in its two cases. -/
theorem fifoPush_eq (v : Byte) (s : State) :
    fifoPush v s =
      if (s.tail.toNat + 1) % s.cfg.depth = s.head.toNat then s.emit (.bufferOverrun v)
      else
        { s with
          buf := s.buf.write s.tail.toNat v
          tail := BitVec.ofNat 16 ((s.tail.toNat + 1) % s.cfg.depth)
          out := ⟨s.out.events ++ [.byteReceived v], s.out.response⟩ } := by
  unfold fifoPush
  by_cases h : (s.tail.toNat + 1) % s.cfg.depth = s.head.toNat
  · rw [if_pos ((fifoFull_iff s).2 h), if_pos h]
  · rw [if_neg (fun g => h ((fifoFull_iff s).1 g)), if_neg h]; rfl

/-- A pop, in its two cases. -/
theorem fifoPop_eq (s : State) :
    fifoPop s =
      if s.head = s.tail then s.emit .notAvailable
      else { s with head := BitVec.ofNat 16 ((s.head.toNat + 1) % s.cfg.depth) } := by
  unfold fifoPop
  by_cases h : s.head = s.tail
  · rw [if_pos ((fifoEmpty_iff s).2 h), if_pos h]
  · rw [if_neg (fun g => h ((fifoEmpty_iff s).1 g)), if_neg h]; rfl

theorem popResult_eq (s : State) :
    popResult s = if s.head = s.tail then none else some (slotByte s s.head.toNat) := by
  unfold popResult
  by_cases h : s.head = s.tail
  · rw [if_pos ((fifoEmpty_iff s).2 h), if_pos h]
  · rw [if_neg (fun g => h ((fifoEmpty_iff s).1 g)), if_neg h]

/-- A slot that a push has written gives the byte written. -/
theorem slotByte_of_read {s : State} {i : Nat} {b : Byte} (h : s.buf.read i = some b) : slotByte s i = b := by
  unfold slotByte; rw [h]; rfl

theorem nextIndex_toNat {c : Config} (h0 : 0 < c.depth) (h : c.depth ≤ 65536) (i : Half) :
    (nextIndex c i).toNat = (i.toNat + 1) % c.depth := by
  have := Nat.mod_lt (i.toNat + 1) h0
  unfold nextIndex
  rw [BitVec.toNat_ofNat]
  exact Nat.mod_eq_of_lt (by omega)

/-! ### SAMPLE -/

/-- The counters after ResetDecided, and nothing else. -/
theorem resetDecided_eq (bit : Bool) (s : State) :
    resetDecided bit s =
      { s with
        lowCount := if s.cfg.symReset || !bit then 0#16 else s.lowCount
        highCount := if s.cfg.symReset || bit then 0#16 else s.highCount } := by
  unfold resetDecided
  rcases hs : s.cfg.symReset <;> rcases bit <;> simp

/-- What SAMPLE leaves as it was. -/
theorem sample_frame (s : State) :
    (sample s).cfg = s.cfg ∧ (sample s).tcnt = s.tcnt ∧ (sample s).ovf = s.ovf ∧ (sample s).en = s.en ∧
    (sample s).txen = s.txen ∧ (sample s).lastTick = s.lastTick ∧ (sample s).prevSmooth = s.prevSmooth ∧
    (sample s).bwo = s.bwo ∧ (sample s).head = s.head ∧ (sample s).faulted = s.faulted ∧
    (sample s).stimuli = s.stimuli ∧ (sample s).resetCount = s.resetCount ∧
    (sample s).out.response = s.out.response := by
  simp only [sample, frameTransition, resetDecided_eq, fifoPush_eq, State.emit]
  rcases s.frameState with _ | _ | i | _ | _ <;> refine ⟨?_, ?_, ?_, ?_, ?_, ?_, ?_, ?_, ?_, ?_, ?_, ?_, ?_⟩ <;>
    simp only [] <;> split <;> rfl

/-- SAMPLE changes nothing of the modulator. -/
theorem sample_sameTransmitter (s : State) : SameTransmitter s (sample s) := by
  simp only [sample, frameTransition, resetDecided_eq, fifoPush_eq, State.emit, SameTransmitter]
  rcases s.frameState with _ | _ | i | _ | _ <;> refine ⟨?_, ?_, ?_, ?_, ?_, ?_, ?_, ?_, ?_⟩ <;>
    simp only [] <;> split <;> rfl

/-- SAMPLE always moves the compare target on by BIT_TICKS. -/
theorem sample_ocr (s : State) : (sample s).ocr = nextTarget s := by
  simp only [sample, frameTransition, resetDecided_eq, fifoPush_eq, State.emit]
  rcases s.frameState with _ | _ | i | _ | _ <;> simp only [] <;> split <;> rfl

/-- SAMPLE clears SAMPLE_EN in Stop and never sets it. -/
theorem sample_sampleEn (s : State) :
    (sample s).sampleEn = if s.frameState = .stop then false else s.sampleEn := by
  simp only [sample, frameTransition, resetDecided_eq, fifoPush_eq, State.emit]
  rcases s.frameState with _ | _ | i | _ | _ <;> simp only [reduceCtorEq, if_true, if_false]
  all_goals first | rfl | (split <;> rfl)

/-- SAMPLE leaves each counter as it was or clears it. -/
theorem sample_counters (s : State) :
    ((sample s).lowCount = s.lowCount ∨ (sample s).lowCount = 0#16) ∧
    ((sample s).highCount = s.highCount ∨ (sample s).highCount = 0#16) := by
  simp only [sample, frameTransition, resetDecided_eq, fifoPush_eq, State.emit]
  rcases s.frameState with _ | _ | i | _ | _ <;> simp only [] <;> constructor <;>
    repeat' (first | exact .inl rfl | exact .inr rfl | exact .inl trivial | split)

/-! ### TXSTEP -/

/-- TXSTEP changes nothing of the receiver, and nothing of the lifecycle. -/
theorem txStep_frame (s : State) :
    SameReceiver s (txStep s) ∧ (txStep s).txen = s.txen ∧ (txStep s).faulted = s.faulted ∧
    (txStep s).stimuli = s.stimuli ∧ (txStep s).resetCount = s.resetCount ∧
    (txStep s).out.response = s.out.response ∧ (txStep s).txFrame = s.txFrame ∧
    (txStep s).txNbits = s.txNbits := by
  simp only [txStep, txToggle, txAdvance, loadBit, State.emit, SameReceiver]
  refine ⟨⟨?_, ?_, ?_, ?_, ?_, ?_, ?_, ?_, ?_, ?_, ?_, ?_, ?_, ?_, ?_, ?_⟩, ?_, ?_, ?_, ?_, ?_, ?_, ?_⟩ <;>
    split <;> (try split) <;> (try split) <;> rfl

/-- The first part of TXSTEP, in one equation. -/
theorem txToggle_eq (s : State) :
    txToggle s =
      { s with
        txout := if s.txWait = 0#16 then !s.txout else s.txout
        txHalves := if s.txWait = 0#16 then s.txHalves - 1#16 else s.txHalves
        txWait := if s.txWait = 0#16 then s.txHalf else s.txWait
        out :=
          ⟨s.out.events ++ (if s.txWait = 0#16 then [.txToggle (!s.txout)] else []), s.out.response⟩ } := by
  unfold txToggle
  split
  · rename_i h; simp [State.emit]
  · simp

/-- One tick of the tone generator: the line and the counters move to `u`, and at the end of a bit the next bit is
loaded or the transmission ends. -/
theorem txStep_cases (s : State) :
    ∃ u : State,
      u =
        { s with
          txout := if s.txWait = 0#16 then !s.txout else s.txout
          txHalves := if s.txWait = 0#16 then s.txHalves - 1#16 else s.txHalves
          txWait := (if s.txWait = 0#16 then s.txHalf else s.txWait) - 1#16
          out :=
            ⟨s.out.events ++ (if s.txWait = 0#16 then [.txToggle (!s.txout)] else []), s.out.response⟩ } ∧
      (u.txWait = 0#16 ∧ u.txHalves = 0#16 ∧ txStep s = txAdvance u ∨
        ¬ (u.txWait = 0#16 ∧ u.txHalves = 0#16) ∧ txStep s = u) := by
  refine ⟨_, rfl, ?_⟩
  unfold txStep
  rw [txToggle_eq]
  by_cases h : (if s.txWait = 0#16 then s.txHalf else s.txWait) - 1#16 = 0#16 ∧
      (if s.txWait = 0#16 then s.txHalves - 1#16 else s.txHalves) = 0#16
  · exact .inl ⟨h.1, h.2, if_pos h⟩
  · exact .inr ⟨h, if_neg h⟩

/-- The end of a bit, in its two cases. -/
theorem txAdvance_eq (s : State) :
    txAdvance s =
      if (s.txIdx + 1#4).toNat < s.txNbits.toNat then
        loadBit (s.txFrame.getLsbD (s.txIdx + 1#4).toNat) { s with txIdx := s.txIdx + 1#4 }
      else { s with txIdx := s.txIdx + 1#4, txBusy := false } := rfl

/-- TXSTEP never starts a transmission. -/
theorem txStep_txBusy (s : State) : (txStep s).txBusy = s.txBusy ∨ (txStep s).txBusy = false := by
  obtain ⟨u, hu, h⟩ := txStep_cases s
  have hb : u.txBusy = s.txBusy := by rw [hu]
  rcases h with ⟨_, _, h⟩ | ⟨_, h⟩ <;> rw [h]
  · rw [txAdvance_eq]
    split
    · exact .inl hb
    · exact .inr rfl
  · exact .inl hb

/-! ### TICK -/

/-- TICK is the count, then SAMPLE at a match, then TXSTEP if a transmission was in progress before it. -/
theorem tick_cases (s : State) :
    ∃ r, (r = countTick s ∧ compareMatch (countTick s) = false ∨
        r = sample (countTick s) ∧ compareMatch (countTick s) = true) ∧
      r.txBusy = s.txBusy ∧ (s.txBusy = true ∧ tick s = txStep r ∨ s.txBusy = false ∧ tick s = r) := by
  have hb : (sample (countTick s)).txBusy = s.txBusy := (sample_sameTransmitter _).2.1.symm
  unfold tick
  rcases hm : compareMatch (countTick s) <;> rcases hx : s.txBusy <;> simp_all

theorem SameReceiver.refl (s : State) : SameReceiver s s :=
  ⟨rfl, rfl, rfl, rfl, rfl, rfl, rfl, rfl, rfl, rfl, rfl, rfl, rfl, rfl, rfl, rfl⟩

theorem SameTransmitter.refl (s : State) : SameTransmitter s s :=
  ⟨rfl, rfl, rfl, rfl, rfl, rfl, rfl, rfl, rfl⟩

/-- What TICK leaves as it was, and its count. -/
theorem tick_frame (s : State) :
    (tick s).cfg = s.cfg ∧ (tick s).tcnt = BitVec.ofNat 15 (nextCount s) ∧
    (tick s).ovf = overflowAfterTick s ∧ (tick s).en = s.en ∧ (tick s).txen = s.txen ∧
    (tick s).lastTick = s.lastTick ∧ (tick s).prevSmooth = s.prevSmooth ∧ (tick s).bwo = s.bwo ∧
    (tick s).head = s.head ∧ (tick s).faulted = s.faulted ∧ (tick s).stimuli = s.stimuli ∧
    (tick s).resetCount = s.resetCount ∧ (tick s).out.response = s.out.response := by
  obtain ⟨r, hr, _, ht⟩ := tick_cases s
  have h : r.cfg = s.cfg ∧ r.tcnt = BitVec.ofNat 15 (nextCount s) ∧ r.ovf = overflowAfterTick s ∧
      r.en = s.en ∧ r.txen = s.txen ∧ r.lastTick = s.lastTick ∧ r.prevSmooth = s.prevSmooth ∧
      r.bwo = s.bwo ∧ r.head = s.head ∧ r.faulted = s.faulted ∧ r.stimuli = s.stimuli ∧
      r.resetCount = s.resetCount ∧ r.out.response = s.out.response := by
    rcases hr with ⟨rfl, _⟩ | ⟨rfl, _⟩
    · exact ⟨rfl, rfl, rfl, rfl, rfl, rfl, rfl, rfl, rfl, rfl, rfl, rfl, rfl⟩
    · exact sample_frame (countTick s)
  rcases ht with ⟨_, ht⟩ | ⟨_, ht⟩ <;> rw [ht]
  · obtain ⟨⟨e1, e2, e3, _, _, e6, e7, e8, _, _, e11, _, _, _, e15, _⟩, g1, g2, g3, g4, g5, _⟩ := txStep_frame r
    rw [← e1, ← e2, ← e3, ← e6, g1, ← e7, ← e8, ← e11, ← e15, g2, g3, g4, g5]
    exact h
  · exact h

/-- TICK never sets SAMPLE_EN, adds to a counter or starts a transmission. -/
theorem tick_writes (s : State) :
    ((tick s).sampleEn = s.sampleEn ∨ (tick s).sampleEn = false) ∧
    ((tick s).lowCount = s.lowCount ∨ (tick s).lowCount = 0#16) ∧
    ((tick s).highCount = s.highCount ∨ (tick s).highCount = 0#16) ∧
    ((tick s).txBusy = s.txBusy ∨ (tick s).txBusy = false) ∧
    (tick s).txFrame = s.txFrame ∧ (tick s).txNbits = s.txNbits := by
  obtain ⟨r, hr, hb, ht⟩ := tick_cases s
  have h : (r.sampleEn = s.sampleEn ∨ r.sampleEn = false) ∧ (r.lowCount = s.lowCount ∨ r.lowCount = 0#16) ∧
      (r.highCount = s.highCount ∨ r.highCount = 0#16) ∧ r.txFrame = s.txFrame ∧ r.txNbits = s.txNbits := by
    rcases hr with ⟨rfl, _⟩ | ⟨rfl, _⟩
    · exact ⟨.inl rfl, .inl rfl, .inl rfl, rfl, rfl⟩
    · obtain ⟨h1, h2⟩ := sample_counters (countTick s)
      obtain ⟨_, _, h3, h4, _⟩ := sample_sameTransmitter (countTick s)
      refine ⟨?_, h1, h2, h3.symm, h4.symm⟩
      rw [sample_sampleEn]
      split
      · exact .inr rfl
      · exact .inl rfl
  rcases ht with ⟨_, ht⟩ | ⟨_, ht⟩ <;> rw [ht]
  · obtain ⟨⟨_, _, _, _, e5, _, _, _, e9, e10, _⟩, _, _, _, _, _, g6, g7⟩ := txStep_frame r
    rw [← e5, ← e9, ← e10, g6, g7, ← hb]
    exact ⟨h.1, h.2.1, h.2.2.1, txStep_txBusy r, h.2.2.2⟩
  · exact ⟨h.1, h.2.1, h.2.2.1, .inl hb, h.2.2.2⟩

/-! ### EDGE -/

/-- A crossing is ignored, discarded as noise, or accepted. -/
theorem edge_cases (s : State) :
    (s.en = false ∧ edge s = s) ∨
    (s.en = true ∧ rawInterval s < s.cfg.noiseFloor ∧
      edge s = s.emit (.noiseDiscard (BitVec.ofNat 16 (rawInterval s)))) ∨
    (s.en = true ∧ s.cfg.noiseFloor ≤ rawInterval s ∧
      edge s = startGate (accumulate (rawInterval s) (acceptCrossing (rawInterval s) s))) := by
  unfold edge
  rcases he : s.en
  · exact .inl ⟨rfl, rfl⟩
  · by_cases hr : rawInterval s < s.cfg.noiseFloor
    · exact .inr (.inl ⟨rfl, hr, by simp [hr]⟩)
    · exact .inr (.inr ⟨rfl, by omega, by simp [hr]⟩)

/-- Accumulation changes one counter, or emits CLASS_MISS. -/
theorem accumulate_eq (raw : Nat) (s : State) :
    accumulate raw s =
      { s with
        highCount := if classify s.cfg s.prevSmooth = .high then s.highCount + s.prevSmooth else s.highCount
        lowCount := if classify s.cfg s.prevSmooth = .low then s.lowCount + s.prevSmooth else s.lowCount
        out :=
          ⟨s.out.events ++
            (if classify s.cfg s.prevSmooth = .miss then [.classMiss (BitVec.ofNat 16 raw) s.prevSmooth]
              else []), s.out.response⟩ } := by
  unfold accumulate
  split <;> rename_i h <;> simp [h, State.emit]

/-- The start gate, in one equation. -/
theorem startGate_eq (s : State) :
    startGate s =
      if s.frameState = .idle ∧ s.cfg.startTh ≤ s.lowCount.toNat then
        { s with
          frameState := .start, highCount := 0#16, bwo := s.tcnt, rxShift := 0#8, ocr := firstTarget s,
          sampleEn := true, out := ⟨s.out.events ++ [.startDetect s.lowCount], s.out.response⟩ }
      else s := by
  unfold startGate gateOpens State.emit
  simp only [Bool.and_eq_true, beq_iff_eq, decide_eq_true_eq]

/-- The raw interval of a state that keeps the timer invariant, without the modulus. -/
theorem rawInterval_eq {s : State} (h : TimerInv s) :
    rawInterval s =
      if s.ovf then s.cfg.m - s.lastTick.toNat + s.tcnt.toNat else s.tcnt.toNat - s.lastTick.toNat := by
  obtain ⟨h1, _, h3, _, h5⟩ := h
  unfold rawInterval
  split
  · rfl
  · rename_i ho
    exact subMod_of_le (h5 (by simpa using ho)) h1

/-- What the end of an accepted crossing leaves as it was. -/
theorem startGate_accumulate_frame (raw : Nat) (a : State) :
    let u := startGate (accumulate raw a)
    (u.cfg = a.cfg ∧ u.tcnt = a.tcnt ∧ u.en = a.en ∧ u.txen = a.txen ∧ u.buf = a.buf ∧ u.head = a.head ∧
      u.tail = a.tail ∧ u.faulted = a.faulted ∧ u.stimuli = a.stimuli ∧ u.resetCount = a.resetCount ∧
      u.out.response = a.out.response ∧ u.ovf = a.ovf ∧ u.lastTick = a.lastTick ∧
      u.prevSmooth = a.prevSmooth) ∧ SameTransmitter a u := by
  intro u
  have hu : u = startGate (accumulate raw a) := rfl
  rw [startGate_eq] at hu
  by_cases hg : (accumulate raw a).frameState = .idle ∧
      (accumulate raw a).cfg.startTh ≤ (accumulate raw a).lowCount.toNat
  · rw [if_pos hg, accumulate_eq] at hu
    rw [hu]
    exact ⟨⟨rfl, rfl, rfl, rfl, rfl, rfl, rfl, rfl, rfl, rfl, rfl, rfl, rfl, rfl⟩, .refl a⟩
  · rw [if_neg hg, accumulate_eq] at hu
    rw [hu]
    exact ⟨⟨rfl, rfl, rfl, rfl, rfl, rfl, rfl, rfl, rfl, rfl, rfl, rfl, rfl, rfl⟩, .refl a⟩

/-- What EDGE leaves as it was. -/
theorem edge_frame (s : State) :
    (edge s).cfg = s.cfg ∧ (edge s).tcnt = s.tcnt ∧ (edge s).en = s.en ∧ (edge s).txen = s.txen ∧
    (edge s).buf = s.buf ∧ (edge s).head = s.head ∧ (edge s).tail = s.tail ∧
    (edge s).faulted = s.faulted ∧ (edge s).stimuli = s.stimuli ∧ (edge s).resetCount = s.resetCount ∧
    (edge s).out.response = s.out.response ∧ SameTransmitter s (edge s) := by
  rcases edge_cases s with ⟨_, h⟩ | ⟨_, _, h⟩ | ⟨_, _, h⟩ <;> rw [h]
  · exact ⟨rfl, rfl, rfl, rfl, rfl, rfl, rfl, rfl, rfl, rfl, rfl, .refl s⟩
  · exact ⟨rfl, rfl, rfl, rfl, rfl, rfl, rfl, rfl, rfl, rfl, rfl, .refl s⟩
  · obtain ⟨⟨h1, h2, h3, h4, h5, h6, h7, h8, h9, h10, h11, _⟩, ht⟩ :=
      startGate_accumulate_frame (rawInterval s) (acceptCrossing (rawInterval s) s)
    exact ⟨h1, h2, h3, h4, h5, h6, h7, h8, h9, h10, h11, ht⟩

/-- What EDGE may write to the registers that an accepted crossing changes. -/
theorem edge_writes (s : State) :
    ((edge s).ovf = s.ovf ∨ (edge s).ovf = false) ∧
    ((edge s).sampleEn = s.sampleEn ∨ s.en = true ∧ (edge s).sampleEn = true) ∧
    ((edge s).lowCount = s.lowCount ∨ (edge s).lowCount = s.lowCount + (edge s).prevSmooth) ∧
    ((edge s).highCount = s.highCount ∨ (edge s).highCount = s.highCount + (edge s).prevSmooth ∨
      (edge s).highCount = 0#16 ∧ (edge s).frameState = .start) ∧
    ((edge s).rxShift = s.rxShift ∨ (edge s).rxShift = 0#8) := by
  rcases edge_cases s with ⟨_, h⟩ | ⟨_, _, h⟩ | ⟨he, _, h⟩ <;> rw [h]
  · exact ⟨.inl rfl, .inl rfl, .inl rfl, .inl rfl, .inl rfl⟩
  · exact ⟨.inl rfl, .inl rfl, .inl rfl, .inl rfl, .inl rfl⟩
  · have hl : ∀ (p : Prop) [Decidable p] (x y : Half), (if p then x + y else x) = x ∨
        (if p then x + y else x) = x + y := fun p _ x y => by split <;> simp
    have ha : ∀ b : State, let a := accumulate (rawInterval s) b
        (a.lowCount = b.lowCount ∨ a.lowCount = b.lowCount + a.prevSmooth) ∧
        (a.highCount = b.highCount ∨ a.highCount = b.highCount + a.prevSmooth) ∧
        a.ovf = b.ovf ∧ a.sampleEn = b.sampleEn ∧ a.rxShift = b.rxShift := fun b => by
      intro a
      simp only [show a = _ from accumulate_eq _ b]
      exact ⟨hl _ _ _, hl _ _ _, trivial, trivial, trivial⟩
    obtain ⟨h1, h2, h3, h4, h5⟩ := ha (acceptCrossing (rawInterval s) s)
    rw [startGate_eq]
    by_cases hg : (accumulate (rawInterval s) (acceptCrossing (rawInterval s) s)).frameState = .idle ∧
        (accumulate (rawInterval s) (acceptCrossing (rawInterval s) s)).cfg.startTh ≤
          (accumulate (rawInterval s) (acceptCrossing (rawInterval s) s)).lowCount.toNat
    · rw [if_pos hg]
      exact ⟨.inr h3, .inr ⟨he, rfl⟩, h1, .inr (.inr ⟨rfl, rfl⟩), .inr rfl⟩
    · rw [if_neg hg]
      exact ⟨.inr h3, .inl h4, h1, h2.imp id .inl, .inl h5⟩

/-! ### The TX writes -/

/-- A TX write that is not held, in its three cases. -/
theorem transmitWrite_cases (f : BitVec 13) (n : BitVec 4) (s : State) :
    (s.cfg.hasModulator = false ∧ transmitWrite f n s = s) ∨
    (s.cfg.hasModulator = true ∧ s.txen = false ∧ transmitWrite f n s = s.raise .txBeforeBegin) ∨
    (s.cfg.hasModulator = true ∧ s.txen = true ∧ transmitWrite f n s = startTransmission f n s) := by
  unfold transmitWrite
  rcases hm : s.cfg.hasModulator
  · exact .inl ⟨rfl, rfl⟩
  · rcases ht : s.txen
    · exact .inr (.inl ⟨rfl, rfl, rfl⟩)
    · exact .inr (.inr ⟨rfl, rfl, rfl⟩)

/-! ### The step -/

/-- Where a step answers a next state, it applied a hardware reset or ran the next word, off the list or held. -/
theorem step_cases {s t : State} (h : step s = .next t) :
    s.faulted = none ∧
    ((∃ draw rest, s.stimuli = .reset draw :: rest ∧ t = hardReset { s with stimuli := rest } draw) ∨
     ∃ w rest, s.stimuli = .word w :: rest ∧
      exec (decode w)
        { s with
          stimuli :=
            if s.txBusy && isHostAccess (decode w) then deferHost (.word w :: rest) else rest } = .next t) := by
  unfold step fetch at h
  rcases hf : s.faulted with _ | c
  · refine ⟨rfl, ?_⟩
    rcases hs : s.stimuli with _ | ⟨_ | _, rest⟩ <;> simp only [hf, hs] at h
    · cases h
    · exact .inr ⟨_, _, rfl, h⟩
    · cases h; exact .inl ⟨_, _, rfl, rfl⟩
  · simp only [hf] at h; cases h

/-- The held accesses keep their order, and nothing is lost. -/
theorem deferHost_perm (l : List Stimulus) : (deferHost l).Perm l := by
  unfold deferHost
  have h := List.takeWhile_append_dropWhile (p := Stimulus.isHost) (l := l)
  split
  · exact List.Perm.refl _
  · rename_i e rest hd
    rw [hd] at h
    conv_rhs => rw [← h]
    exact List.perm_middle.symm

end Sys2Proof.Machine
end

