-- ==== Sys2Proof/Laws/Exec.lean ====
section
/-! SUPPORT. What an instruction can do, said once: every next state of `exec` is one of the listed ones. -/

namespace Sys2Proof.Machine

/-- A host read other than RD RXDATA, or an ignored write: the observation alone changes. -/
abbrev OnlyAnswers (s t : State) : Prop := ∃ r, t = { s with out := ⟨[], r⟩ }

/-- Every next state of an instruction. A host access changes only the observation while it is held, and also
where it has no side effect. -/
theorem exec_cases {i : Instr} {s t : State} (h : exec i s = .next t) :
    (i = .tick ∧ t = tick s.quiet) ∨ (i = .edge ∧ t = edge s.quiet) ∨ (i = .sample ∧ t = sample s.quiet) ∨
    (i = .txstep ∧ t = txStep s.quiet) ∨ (∃ v, i = .fifoPush v ∧ t = fifoPush v s.quiet) ∨
    (i = .fifoPop ∧ t = (fifoPop s.quiet).respond (.popped (popResult s))) ∨
    (∃ w, i = .illegal w ∧ t = s.quiet.raise .illegalStimulus) ∨
    (isHostAccess i = true ∧ OnlyAnswers s t) ∨
    s.txBusy = false ∧
      ((i = .rdRxdata ∧ t = (fifoPop s.quiet).respond (.value (rxdataImage (popResult s)))) ∨
       (∃ x, i = .wrCtrlBegin x ∧ t = beginOp s.quiet) ∨ (∃ x, i = .wrCtrlEnd x ∧ t = endOp s.quiet) ∨
       (∃ x b, i = .wrTxdata x b ∧ t = transmitWrite (frameOf b) 13#4 s.quiet) ∨
       ∃ x b, i = .wrTxbit x b ∧ t = transmitWrite (b.setWidth 13) 1#4 s.quiet) := by
  cases i
  case tick => cases h; exact .inl ⟨rfl, rfl⟩
  case edge => cases h; exact .inr (.inl ⟨rfl, rfl⟩)
  case sample => cases h; exact .inr (.inr (.inl ⟨rfl, rfl⟩))
  case txstep => cases h; exact .inr (.inr (.inr (.inl ⟨rfl, rfl⟩)))
  case fifoPush => cases h; exact .inr (.inr (.inr (.inr (.inl ⟨_, rfl, rfl⟩))))
  case fifoPop => cases h; exact .inr (.inr (.inr (.inr (.inr (.inl ⟨rfl, rfl⟩)))))
  case illegal => cases h; exact .inr (.inr (.inr (.inr (.inr (.inr (.inl ⟨_, rfl, rfl⟩))))))
  all_goals iterate 7 refine .inr ?_
  case rdRxdata =>
    change hostAccess s (fun t => (fifoPop t).respond (.value (rxdataImage (popResult t)))) = .next t at h
    rcases hostAccess_cases h with ⟨_, rfl⟩ | ⟨hb, rfl⟩
    · exact .inl ⟨rfl, _, rfl⟩
    · exact .inr ⟨hb, .inl ⟨rfl, rfl⟩⟩
  case wrCtrlBegin =>
    rcases hostAccess_cases h with ⟨_, rfl⟩ | ⟨hb, rfl⟩
    · exact .inl ⟨rfl, _, rfl⟩
    · exact .inr ⟨hb, .inr (.inl ⟨_, rfl, rfl⟩)⟩
  case wrCtrlEnd =>
    rcases hostAccess_cases h with ⟨_, rfl⟩ | ⟨hb, rfl⟩
    · exact .inl ⟨rfl, _, rfl⟩
    · exact .inr ⟨hb, .inr (.inr (.inl ⟨_, rfl, rfl⟩))⟩
  case wrTxdata =>
    rcases hostAccess_cases h with ⟨_, rfl⟩ | ⟨hb, rfl⟩
    · exact .inl ⟨rfl, _, rfl⟩
    · exact .inr ⟨hb, .inr (.inr (.inr (.inl ⟨_, _, rfl, rfl⟩)))⟩
  case wrTxbit =>
    rcases hostAccess_cases h with ⟨_, rfl⟩ | ⟨hb, rfl⟩
    · exact .inl ⟨rfl, _, rfl⟩
    · exact .inr ⟨hb, .inr (.inr (.inr (.inr ⟨_, _, rfl, rfl⟩)))⟩
  all_goals
    refine .inl ⟨rfl, ?_⟩
    first
      | exact hostRead_cases h
      | rcases hostAccess_cases h with ⟨_, rfl⟩ | ⟨_, rfl⟩ <;> exact ⟨_, rfl⟩

end Sys2Proof.Machine
end

