-- ==== Sys2Proof/Laws/PerInstr.lean ====
section
/-! SUPPORT. The family EncodeLength: an instruction that is a stimulus has exactly one word, an internal action
none (30_encoding.md R90, R91). -/

/-- The instruction has one word exactly when it is a stimulus, and none otherwise. -/
def Sys2Proof.Laws.EncodeLength.Statement (i : Sys2Proof.Instr) : Prop :=
  (Sys2Proof.encode i).length = if i.hasWord then 1 else 0

theorem Sys2Proof.Laws.EncodeLength.tick :
    Sys2Proof.Laws.EncodeLength.Statement .tick := rfl

theorem Sys2Proof.Laws.EncodeLength.edge :
    Sys2Proof.Laws.EncodeLength.Statement .edge := rfl

theorem Sys2Proof.Laws.EncodeLength.rdCtrl :
    Sys2Proof.Laws.EncodeLength.Statement .rdCtrl := rfl

theorem Sys2Proof.Laws.EncodeLength.rdStatus :
    Sys2Proof.Laws.EncodeLength.Statement .rdStatus := rfl

theorem Sys2Proof.Laws.EncodeLength.rdAvail :
    Sys2Proof.Laws.EncodeLength.Statement .rdAvail := rfl

theorem Sys2Proof.Laws.EncodeLength.rdRxdata :
    Sys2Proof.Laws.EncodeLength.Statement .rdRxdata := rfl

theorem Sys2Proof.Laws.EncodeLength.rdTxdata :
    Sys2Proof.Laws.EncodeLength.Statement .rdTxdata := rfl

theorem Sys2Proof.Laws.EncodeLength.rdTxbit :
    Sys2Proof.Laws.EncodeLength.Statement .rdTxbit := rfl

theorem Sys2Proof.Laws.EncodeLength.rdLowcnt :
    Sys2Proof.Laws.EncodeLength.Statement .rdLowcnt := rfl

theorem Sys2Proof.Laws.EncodeLength.rdHighcnt :
    Sys2Proof.Laws.EncodeLength.Statement .rdHighcnt := rfl

theorem Sys2Proof.Laws.EncodeLength.rdTcnt :
    Sys2Proof.Laws.EncodeLength.Statement .rdTcnt := rfl

theorem Sys2Proof.Laws.EncodeLength.rdOcr :
    Sys2Proof.Laws.EncodeLength.Statement .rdOcr := rfl

theorem Sys2Proof.Laws.EncodeLength.rdLasttick :
    Sys2Proof.Laws.EncodeLength.Statement .rdLasttick := rfl

theorem Sys2Proof.Laws.EncodeLength.rdPrevsm :
    Sys2Proof.Laws.EncodeLength.Statement .rdPrevsm := rfl

theorem Sys2Proof.Laws.EncodeLength.rdRxshift :
    Sys2Proof.Laws.EncodeLength.Statement .rdRxshift := rfl

theorem Sys2Proof.Laws.EncodeLength.rdBwo :
    Sys2Proof.Laws.EncodeLength.Statement .rdBwo := rfl

theorem Sys2Proof.Laws.EncodeLength.rdReserved14 :
    Sys2Proof.Laws.EncodeLength.Statement .rdReserved14 := rfl

theorem Sys2Proof.Laws.EncodeLength.rdReserved15 :
    Sys2Proof.Laws.EncodeLength.Statement .rdReserved15 := rfl

theorem Sys2Proof.Laws.EncodeLength.wrCtrlBegin (ignored : BitVec 15) :
    Sys2Proof.Laws.EncodeLength.Statement (.wrCtrlBegin ignored) := rfl

theorem Sys2Proof.Laws.EncodeLength.wrCtrlEnd (ignored : BitVec 15) :
    Sys2Proof.Laws.EncodeLength.Statement (.wrCtrlEnd ignored) := rfl

theorem Sys2Proof.Laws.EncodeLength.wrTxdata (ignored : BitVec 8) (byte : Sys2Proof.Byte) :
    Sys2Proof.Laws.EncodeLength.Statement (.wrTxdata ignored byte) := rfl

theorem Sys2Proof.Laws.EncodeLength.wrTxbit (ignored : BitVec 15) (bit : BitVec 1) :
    Sys2Proof.Laws.EncodeLength.Statement (.wrTxbit ignored bit) := rfl

theorem Sys2Proof.Laws.EncodeLength.wrStatus (data : Sys2Proof.Half) :
    Sys2Proof.Laws.EncodeLength.Statement (.wrStatus data) := rfl

theorem Sys2Proof.Laws.EncodeLength.wrAvail (data : Sys2Proof.Half) :
    Sys2Proof.Laws.EncodeLength.Statement (.wrAvail data) := rfl

theorem Sys2Proof.Laws.EncodeLength.wrRxdata (data : Sys2Proof.Half) :
    Sys2Proof.Laws.EncodeLength.Statement (.wrRxdata data) := rfl

theorem Sys2Proof.Laws.EncodeLength.wrLowcnt (data : Sys2Proof.Half) :
    Sys2Proof.Laws.EncodeLength.Statement (.wrLowcnt data) := rfl

theorem Sys2Proof.Laws.EncodeLength.wrHighcnt (data : Sys2Proof.Half) :
    Sys2Proof.Laws.EncodeLength.Statement (.wrHighcnt data) := rfl

theorem Sys2Proof.Laws.EncodeLength.wrTcnt (data : Sys2Proof.Half) :
    Sys2Proof.Laws.EncodeLength.Statement (.wrTcnt data) := rfl

theorem Sys2Proof.Laws.EncodeLength.wrOcr (data : Sys2Proof.Half) :
    Sys2Proof.Laws.EncodeLength.Statement (.wrOcr data) := rfl

theorem Sys2Proof.Laws.EncodeLength.wrLasttick (data : Sys2Proof.Half) :
    Sys2Proof.Laws.EncodeLength.Statement (.wrLasttick data) := rfl

theorem Sys2Proof.Laws.EncodeLength.wrPrevsm (data : Sys2Proof.Half) :
    Sys2Proof.Laws.EncodeLength.Statement (.wrPrevsm data) := rfl

theorem Sys2Proof.Laws.EncodeLength.wrRxshift (data : Sys2Proof.Half) :
    Sys2Proof.Laws.EncodeLength.Statement (.wrRxshift data) := rfl

theorem Sys2Proof.Laws.EncodeLength.wrBwo (data : Sys2Proof.Half) :
    Sys2Proof.Laws.EncodeLength.Statement (.wrBwo data) := rfl

theorem Sys2Proof.Laws.EncodeLength.wrReserved14 (data : Sys2Proof.Half) :
    Sys2Proof.Laws.EncodeLength.Statement (.wrReserved14 data) := rfl

theorem Sys2Proof.Laws.EncodeLength.wrReserved15 (data : Sys2Proof.Half) :
    Sys2Proof.Laws.EncodeLength.Statement (.wrReserved15 data) := rfl

theorem Sys2Proof.Laws.EncodeLength.illegal (word : Sys2Proof.StimulusWord) :
    Sys2Proof.Laws.EncodeLength.Statement (.illegal word) := rfl

theorem Sys2Proof.Laws.EncodeLength.sample :
    Sys2Proof.Laws.EncodeLength.Statement .sample := rfl

theorem Sys2Proof.Laws.EncodeLength.txstep :
    Sys2Proof.Laws.EncodeLength.Statement .txstep := rfl

theorem Sys2Proof.Laws.EncodeLength.fifoPush (v : Sys2Proof.Byte) :
    Sys2Proof.Laws.EncodeLength.Statement (.fifoPush v) := rfl

theorem Sys2Proof.Laws.EncodeLength.fifoPop :
    Sys2Proof.Laws.EncodeLength.Statement .fifoPop := rfl
end

