-- ==== Sys2Proof/Tests/Slice0.lean ====
section
/-! SUPPORT. Tests of the model: words written out from the spec's encodings, the vectors of 95_test_vectors.md and
the examples of the rules, one step each; then, for each statement with hypotheses, a witness that they can hold. -/

namespace Sys2Proof.Machine.Tests

/-! ### Helpers -/

/-- The next state of an outcome, if there is one. -/
def nextOf (o : Host.Outcome State Fault Refusal) : Option State :=
  match o with
  | .next t => some t
  | _ => none

/-- A view of the next state of one instruction. -/
def view {α : Type} (i : Instr) (s : State) (f : State → α) : Option α := (nextOf (exec i s)).map f

/-- The events of a state. -/
def ev (s : State) : List Event := s.out.events

/-- B0 of 95_test_vectors.md: reset, then BEGIN. -/
def b0 : State := beginOp State.reset

/-- B0 with the receiver's timer and filter registers given. -/
def at' (last prev now : Nat) : State :=
  { b0 with
    lastTick := BitVec.ofNat 15 last, prevSmooth := BitVec.ofNat 16 prev, tcnt := BitVec.ofNat 15 now }

/-- B0 about to sample in a frame state. -/
def sampling (f : FrameState) (low high : Nat) (r : Byte) (ocr : Nat) : State :=
  { b0 with
    frameState := f, lowCount := BitVec.ofNat 16 low, highCount := BitVec.ofNat 16 high, rxShift := r,
    ocr := BitVec.ofNat 15 ocr, sampleEn := true }

/-- B0 transmitting 0x5A, after V-M2's write. -/
def sending : State := startTransmission (frameOf 0x5A#8) 13#4 b0

/-- B0 with one byte stored (V-Q3). -/
def oneByte : State := { b0 with buf := [(0, 0x42#8)], tail := 1#16 }

/-- A full FIFO: HEAD 1, TAIL 0, thirty-one bytes. -/
def fullFifo : State :=
  { b0 with buf := (List.range 32).map (fun k => (k, BitVec.ofNat 8 k)), head := 1#16, tail := 0#16 }

/-! ### Well-formedness -/

/-- The one check: an illegal instruction carries a word that no legal form takes. -/
theorem test_wf_illegal : (Instr.illegal 0x000000#24).wellFormed = false ∧
    (Instr.illegal 0xC0FFFF#24).wellFormed = false ∧ (Instr.illegal 0x100000#24).wellFormed = true := by decide

/-! ### Decoding: the words of 95_test_vectors.md V-E1 to V-E13 and of spec/opcode_table.json -/

theorem test_decode_events : decode 0b00_00_0000_0000000000000000#24 = .tick ∧
    decode 0b01_00_0000_0000000000000000#24 = .edge := by decide

theorem test_decode_reads :
    [0x800000#24, 0x810000#24, 0x820000#24, 0x830000#24, 0x840000#24, 0x850000#24, 0x860000#24, 0x870000#24,
      0x880000#24, 0x890000#24, 0x8A0000#24, 0x8B0000#24, 0x8C0000#24, 0x8D0000#24, 0x8E0000#24,
      0x8F0000#24].map decode =
    [.rdCtrl, .rdStatus, .rdAvail, .rdRxdata, .rdTxdata, .rdTxbit, .rdLowcnt, .rdHighcnt, .rdTcnt, .rdOcr,
      .rdLasttick, .rdPrevsm, .rdRxshift, .rdBwo, .rdReserved14, .rdReserved15] := by decide

theorem test_decode_writes :
    [0xC00001#24, 0xC00003#24, 0xC00000#24, 0xC0FFFE#24, 0xC4005A#24, 0xC4015A#24, 0xC50001#24,
      0xC50002#24].map decode =
    [.wrCtrlBegin 0#15, .wrCtrlBegin 1#15, .wrCtrlEnd 0#15, .wrCtrlEnd 0x7FFF#15, .wrTxdata 0#8 0x5A#8,
      .wrTxdata 1#8 0x5A#8, .wrTxbit 0#15 1#1, .wrTxbit 1#15 0#1] := by decide

theorem test_decode_ignored_writes_low : decode 0xC1FFFF#24 = .wrStatus 0xFFFF#16 ∧
    decode 0xC20001#24 = .wrAvail 1#16 ∧ decode 0xC30002#24 = .wrRxdata 2#16 ∧
    decode 0xC60003#24 = .wrLowcnt 3#16 ∧ decode 0xC70004#24 = .wrHighcnt 4#16 ∧
    decode 0xC80005#24 = .wrTcnt 5#16 := by decide

theorem test_decode_ignored_writes_high : decode 0xC90006#24 = .wrOcr 6#16 ∧
    decode 0xCA0007#24 = .wrLasttick 7#16 ∧ decode 0xCB0008#24 = .wrPrevsm 8#16 ∧
    decode 0xCC0009#24 = .wrRxshift 9#16 ∧ decode 0xCD8000#24 = .wrBwo 0x8000#16 ∧
    decode 0xCEFFFF#24 = .wrReserved14 0xFFFF#16 ∧ decode 0xCF1234#24 = .wrReserved15 0x1234#16 := by
  decide +kernel

theorem test_decode_illegal : decode 0x100000#24 = .illegal 0x100000#24 ∧
    decode 0x200000#24 = .illegal 0x200000#24 ∧ decode 0x300000#24 = .illegal 0x300000#24 ∧
    decode 0x010000#24 = .illegal 0x010000#24 ∧ decode 0x400001#24 = .illegal 0x400001#24 ∧
    decode 0x4F0000#24 = .illegal 0x4F0000#24 ∧ decode 0x80FFFF#24 = .illegal 0x80FFFF#24 := by decide

theorem test_encode : encode (.wrTxdata 0x01#8 0x5A#8) = [0xC4015A#24] ∧ encode (.wrTxbit 1#15 0#1) = [0xC50002#24] ∧
    encode .rdReserved15 = [0x8F0000#24] ∧ encode (.wrCtrlBegin 0#15) = [0xC00001#24] ∧ encode .sample = [] := by
  decide

theorem test_table_word : decodeTableWord 24 0xC4005A = some (.wrTxdata 0#8 0x5A#8) ∧
    decodeTableWord 32 0 = none := by decide

/-- 30_encoding.md R93, for a tone of three ticks and one cycle. -/
theorem test_tone_words : toneWords { Config.reference with lowNom := 3, lowCyc := 1 } false =
    [0x000000#24, 0x400000#24, 0x000000#24, 0x000000#24, 0x000000#24, 0x400000#24, 0x000000#24, 0x000000#24] := by
  decide

/-- V-E14, V-E15 and a line with a comment. -/
theorem test_assembly : assembleLine Config.reference "WR TXDATA, 0x10000".toList = .error .badLiteral ∧
    assembleLine Config.reference "RD FOO".toList = .error .badRegister ∧
    assembleLine Config.reference "TICK 3 ; three".toList = .ok [0x000000#24, 0x000000#24, 0x000000#24] := by
  decide

/-! ### The timer -/

/-- V-T1. -/
theorem test_tick_wraps : view .tick { State.reset with tcnt := 255#15 } (fun t => (t.tcnt, t.ovf, ev t)) =
    some (0#15, true, []) := by decide

/-- V-T3. -/
theorem test_tick_samples : view .tick { b0 with tcnt := 100#15, ocr := 101#15, sampleEn := true }
    (fun t => (t.tcnt, t.ocr, ev t)) = some (101#15, 85#15, [.bitSample .idle false]) := by decide

/-- V-T8: the sample comes before the modulator step. -/
theorem test_tick_order : view .tick { sending with tcnt := 100#15, ocr := 101#15, sampleEn := true } ev =
    some [.bitSample .idle false, .txToggle true] := by decide

/-! ### The classifier -/

/-- V-C2. -/
theorem test_edge_noise : view .edge (at' 100 20 105) (fun t => (ev t, t.lastTick)) =
    some ([.noiseDiscard 5#16], 100#15) := by decide

/-- V-C4. -/
theorem test_edge_wrapped : view .edge { at' 10 20 20 with ovf := true }
    (fun t => (ev t, t.prevSmooth, t.lastTick, t.ovf)) =
    some ([.classMiss 266#16 204#16], 204#16, 20#15, false) := by decide

/-- V-C6: an interval in both bands is High. -/
theorem test_edge_both_bands : view .edge (at' 100 24 124) (fun t => (t.highCount, t.lowCount)) =
    some (24#16, 0#16) := by decide

/-- V-C7. -/
theorem test_edge_start : view .edge { at' 196 29 226 with lowCount := 145#16, rxShift := 0x55#8 }
    (fun t => (t.frameState, t.bwo, t.ocr, t.rxShift, ev t)) =
    some (.start, 226#15, 36#15, 0#8, [.startDetect 174#16]) := by decide

/-- V-C12: LOW_COUNT wraps. -/
theorem test_edge_count_wraps :
    view .edge { at' 100 29 130 with frameState := .data 3, lowCount := 65530#16 } (fun t => t.lowCount) =
    some 23#16 := by decide

/-! ### The frame state machine -/

/-- V-F2: a tie is 0. -/
theorem test_sample_tie : view .sample (sampling .start 100 100 0#8 100)
    (fun t => (t.frameState, t.lowCount, t.highCount, t.ocr)) = some (.data 0, 0#16, 100#16, 84#15) := by decide

/-- V-F3. -/
theorem test_sample_false_start : view .sample (sampling .start 100 200 0#8 100)
    (fun t => (t.frameState, t.sampleEn, t.highCount, ev t)) =
    some (.idle, true, 200#16, [.bitSample .start true, .falseStart]) := by decide

/-- V-F5. -/
theorem test_sample_data : view .sample (sampling (.data 2) 10 230 0x05#8 200)
    (fun t => (t.rxShift, t.frameState, t.highCount, t.lowCount)) =
    some (0x82#8, .data 3, 0#16, 10#16) := by decide

/-- V-F8. -/
theorem test_sample_stop : view .sample (sampling .stop 230 10 0xA5#8 10)
    (fun t => (t.buf, t.tail, t.frameState, t.sampleEn, t.lowCount)) =
    some ([(0, 0xA5#8)], 1#16, .idle, false, 230#16) := by decide

/-! ### The FIFO and the host registers -/

/-- 43_fifo_host.md R180's example. -/
theorem test_push_full : view (.fifoPush 0x44#8)
    { b0 with cfg := { Config.reference with depth := 4 }, tail := 3#16 } (fun t => (t.tail, t.buf, ev t)) =
    some (3#16, [], [.bufferOverrun 0x44#8]) := by decide

/-- R181's example. -/
theorem test_pop_wraps : view .fifoPop
    { b0 with cfg := { Config.reference with depth := 4 }, head := 3#16, tail := 0#16, buf := [(3, 0x33#8)] }
    (fun t => (t.head, t.out.response)) = some (0#16, .popped (some 0x33#8)) := by decide

/-- V-Q3. -/
theorem test_read_rxdata : view .rdRxdata oneByte (fun t => (t.head, t.out.response)) =
    some (1#16, .value 0x0142#16) := by decide

/-- V-Q2. -/
theorem test_read_empty : view .rdRxdata b0 (fun t => (t.head, t.out)) =
    some (0#16, ⟨[.notAvailable], .value 0#16⟩) := by decide

/-- V-Q1. -/
theorem test_read_avail : view .rdAvail { b0 with head := 30#16, tail := 2#16 } (fun t => t.out.response) =
    some (.value 4#16) := by decide

/-- R188's example. -/
theorem test_read_ctrl : view .rdCtrl b0 (fun t => t.out.response) = some (.value 1#16) := by decide

/-- R189's example. -/
theorem test_read_status : view .rdStatus (sampling (.data 3) 0 0 0#8 0) (fun t => t.out.response) =
    some (.value 0x0513#16) := by decide

/-- 10_state.md R57 and R192: the debug window, the write-only registers and the reserved addresses. -/
theorem test_read_window :
    [Instr.rdTxdata, .rdTxbit, .rdLowcnt, .rdHighcnt, .rdTcnt, .rdOcr, .rdLasttick, .rdPrevsm, .rdRxshift,
      .rdBwo, .rdReserved14, .rdReserved15].map (fun i => view i
        { sampling .start 9 8 0x07#8 6 with
          tcnt := 5#15, lastTick := 4#15, prevSmooth := 3#16, bwo := 2#15 } (fun t => t.out.response)) =
    [0#16, 0#16, 9#16, 8#16, 5#16, 6#16, 4#16, 3#16, 7#16, 2#16, 0#16, 0#16].map
      (fun v => some (.value v)) := by decide

/-- V-Q7: ignored writes change nothing. -/
theorem test_ignored_writes :
    ∀ i ∈ [Instr.wrStatus 0xFFFF#16, .wrAvail 1#16, .wrRxdata 1#16, .wrLowcnt 1#16, .wrHighcnt 1#16,
      .wrTcnt 1#16, .wrOcr 1#16, .wrLasttick 1#16, .wrPrevsm 1#16, .wrRxshift 1#16, .wrBwo 1#16,
      .wrReserved14 0xFFFF#16, .wrReserved15 1#16], view i b0 id = some b0 := by decide

/-- R183's example. -/
theorem test_begin : view (.wrCtrlBegin 0#15) { State.reset with tcnt := 20#15 }
    (fun t => (t.en, t.txen, t.lastTick, statusImage t)) = some (true, true, 20#15, 0x0011#16) := by decide

/-- V-Q5, V-Q8. -/
theorem test_end : view (.wrCtrlEnd 0x7FFF#15) b0 (fun t => (t.en, t.txen, statusImage t)) =
    some (false, true, 0x0010#16) := by decide

/-- V-Q10: held while transmitting. -/
theorem test_held : view .rdStatus sending (fun t => t.out.response) = some .held := by decide

/-! ### The modulator -/

/-- V-M1. -/
theorem test_frames : [0x00#8, 0xFF#8, 0x5A#8, 0x01#8, 0xA5#8, 0x80#8].map frameOf =
    [0x1801#13, 0x1BFD#13, 0x1969#13, 0x1C05#13, 0x1A95#13, 0x1E01#13] := by decide

/-- V-M2. -/
theorem test_write_byte : view (.wrTxdata 0#8 0x5A#8) b0
    (fun t => (t.txFrame, t.txNbits, t.txBusy, t.txHalf, t.txHalves, t.txWait)) =
    some (0x1969#13, 13#4, true, 20#16, 12#16, 0#16) := by decide

/-- V-M9. -/
theorem test_emit_bit : view (.wrTxbit 1#15 0#1) b0 (fun t => (t.txNbits, t.txBusy, t.txHalf, t.txHalves)) =
    some (1#4, true, 30#16, 8#16) := by decide

/-- V-M3. -/
theorem test_txstep : view .txstep sending (fun t => (t.txout, t.txHalves, t.txWait, ev t)) =
    some (true, 11#16, 19#16, [.txToggle true]) := by decide

/-! ### Faults, reset and the step -/

/-- V-M7, and V-X2 for the step after it. -/
theorem test_tx_before_begin : view (.wrTxdata 0#8 0x41#8) State.reset id =
    some { State.reset with faulted := some .txBeforeBegin } := by decide

/-- V-E10. -/
theorem test_illegal : view (.illegal 0x100000#24) b0 id = some { b0 with faulted := some .illegalStimulus } := by
  decide

/-- The first word presented after reset is run. -/
theorem test_step_word : (nextOf (step (State.reset.withFetchWord 24 0xC00001))).map (fun t => (t.en, t.stimuli)) =
    some (true, []) := by decide

/-- 70_reset_and_hazards.md R260: the draw, and registers back at reset values. -/
theorem test_step_reset : (nextOf (step { sending with stimuli := [.reset 77] })).map
    (fun t => (t.tcnt, t.en, t.txBusy)) = some (77#15, false, false) := by decide

/-! ### Witnesses: the hypotheses of each statement, met by a concrete state, each clause at a boundary value -/

theorem valid_reference : Config.reference.Valid := by decide

theorem fit_reference : Config.reference.TonesFit := by decide

/-- The largest configuration R7 allows, with M = 32768 and DEPTH = 65536. -/
def largest : Config :=
  { Config.reference with
    m := 32768, bitTicks := 32768, depth := 65536, startTh := 65535, lowHi := 65535, highHi := 65535,
    startAlign := .now, symReset := true }

theorem valid_largest : largest.Valid := by decide

theorem inv_reset : Inv State.reset := ⟨by decide, by decide, by decide, by decide, by decide, by decide⟩

/-- B0 keeps the invariant, and so does B0 in the middle of a transmission. -/
theorem inv_b0 : Inv b0 := ⟨by decide, by decide, by decide, by decide, by decide, by decide⟩

theorem inv_sending : Inv sending := ⟨by decide, by decide, by decide, by decide, by decide, by decide⟩

theorem witness_DecodeOfEncode : (Instr.wrTxdata 0xFF#8 0xFF#8).wellFormed = true ∧
    (Instr.wrTxdata 0xFF#8 0xFF#8).hasWord = true ∧ (Instr.illegal 0xFFFFFF#24).wellFormed = true ∧
    (Instr.illegal 0xFFFFFF#24).hasWord = true := by decide

/-- For OpcodeRowsPartitionLegalWords: a legal and an illegal word. -/
theorem witness_OpcodeRowsPartitionLegalWords : legalWord 0xCFFFFF#24 = true ∧ legalWord 0x000001#24 = false := by
  decide

theorem witness_AssemblyIsAllOrNothing :
    (∃ l ∈ ["TICK".toList, "RD FOO".toList], ∃ e, assembleLine Config.reference l = .error e) ∧
    ["TICK".toList, "EDGE".toList].map (assembleLine Config.reference) =
      [[0x000000#24], [0x400000#24]].map Except.ok :=
  ⟨⟨_, List.mem_cons_of_mem _ List.mem_cons_self, .badRegister, by decide⟩, by decide⟩

/-- For AssemblyErrors: the literal right above the range. -/
theorem witness_AssemblyErrors :
    lineTokens [] "wr txdata, 65536".toList = ["WR".toList, "TXDATA".toList, ",".toList, "65536".toList] ∧
    literalValue "65536".toList = some 65536 ∧ 0xFFFF < 65536 := by decide

/-- For AssemblyErrors: a name that is no register's, and the address right above the range, read and written. -/
theorem witness_AssemblyErrors_registers :
    (∀ r ∈ ["FOO".toList, "@16".toList],
      r ∉ ["CTRL", "STATUS", "AVAIL", "RXDATA", "TXDATA", "TXBIT", "LOWCNT", "HIGHCNT", "TCNT", "OCR", "LASTTICK",
        "PREVSM", "RXSHIFT", "BWO"].map String.toList) ∧
    (∀ ds n, "FOO".toList = '@' :: ds → literalValue ds = some n → 15 < n) ∧
    (∀ ds n, "@16".toList = '@' :: ds → literalValue ds = some n → 15 < n) ∧
    lineTokens [] "RD FOO".toList = ["RD".toList, "FOO".toList] ∧
    lineTokens [] "WR @16, 0".toList = ["WR".toList, "@16".toList, ",".toList, "0".toList] := by
  refine ⟨by decide, fun ds n h => ?_, fun ds n h h' => ?_, by decide, by decide⟩
  · exact absurd (List.cons.inj h).1 (by decide)
  · have hd : ds = "16".toList := (List.cons.inj (h.symm.trans (by decide : "@16".toList = '@' :: "16".toList))).2
    have hv : literalValue "16".toList = some 16 := by decide
    rw [hd, hv] at h'
    rw [← Option.some.inj h']
    decide

/-- A parameter record that R7 refuses: M = 1. -/
theorem witness_InvalidConfigurationRefused : ¬ 2 ≤ (deriveConfig { Params.reference with m := 1 }).m := by decide

/-- For ValidParametersAreConstructed: the largest TCNT_INIT, and a record that each half of the last clause refuses. -/
theorem witness_ValidParametersAreConstructed :
    let p : Params := { Params.reference with tcntInit := 255 }
    (0 < p.baud ∧ 0 < p.lowHz ∧ 0 < p.highHz ∧ 0 < p.bandDen) ∧
    (0 < p.noiseDen ∧ 0 < p.startDen ∧ p.tcntInit < p.m ∧ (deriveConfig p).Valid) ∧
    ¬ ({ p with tcntInit := 256 } : Params).tcntInit < p.m ∧ ¬ 0 < ({ p with baud := 0 } : Params).baud := by decide

/-- For ConstructedTonesFit and InvariantHoldsAtConstruction. -/
theorem witness_construct : construct Params.reference = .ok State.reset := by
  unfold construct
  rw [if_pos ⟨by decide, by decide, by decide, by decide, by decide, by decide, by decide, by decide⟩]
  rfl

/-- At the largest draw, from the middle of a transmission. -/
theorem witness_HardwareResetValues :
    let s : State := { sending with stimuli := [.reset 255] }
    s.faulted = none ∧ s.stimuli = [.reset 255] ∧ s.cfg.Valid ∧ 255 < s.cfg.m := by decide

/-- For HostReadsAfterReset: the first reset at the largest draw there is, and one in the middle of a
transmission, with a stimulus behind it. -/
theorem witness_HostReadsAfterReset : largest.Valid ∧ 32767 < largest.m ∧
    let s : State := { sending with stimuli := [.reset 255, .word 0x000000#24] }
    s.faulted = none ∧ s.stimuli = .reset 255 :: [.word 0x000000#24] ∧ s.cfg.Valid ∧ 255 < s.cfg.m := by decide

/-- For StepRunsDecodedInstruction: a host access while idle, and a TICK while transmitting. -/
theorem witness_StepRunsDecodedInstruction :
    let s : State := { b0 with stimuli := [.word 0x810000#24] }
    let u : State := { sending with stimuli := [.word 0x000000#24] }
    s.faulted = none ∧ ¬ (s.txBusy = true ∧ isHostAccess (decode 0x810000#24) = true) ∧
    u.faulted = none ∧ ¬ (u.txBusy = true ∧ isHostAccess (decode 0x000000#24) = true) := by decide

theorem witness_PresentedWordRunsNext : State.reset.faulted = none ∧
    ¬ (State.reset.txBusy = true ∧ isHostAccess (decode 0xC00001#24) = true) := by decide

theorem witness_HeldAccessIsKept :
    let s : State := { sending with stimuli := [.word 0x810000#24, .word 0x820000#24, .word 0x000000#24] }
    s.faulted = none ∧ s.txBusy = true ∧
    (∀ x ∈ [Stimulus.word 0x810000#24, .word 0x820000#24], x.isHost = true) ∧
    (Stimulus.word 0x000000#24).isHost = false ∧
    s.stimuli = Stimulus.word 0x810000#24 :: [.word 0x820000#24] ++ .word 0x000000#24 :: [] ∧
    ({ sending with stimuli := [.word 0x810000#24] } : State).stimuli = .word 0x810000#24 :: [] := by decide

/-- For StepNeedsAStimulus, both clauses. -/
theorem witness_StepNeedsAStimulus : State.reset.faulted = none ∧ State.reset.stimuli = [] ∧
    (State.reset.withFetchWord 24 0).faulted = none ∧ (State.reset.withFetchWord 24 0).stimuli ≠ [] := by decide

/-- For FaultsEndTheRun: an idle block with a modulator and no BEGIN yet, and a faulted one. -/
theorem witness_FaultsEndTheRun : State.reset.txBusy = false ∧ State.reset.cfg.hasModulator = true ∧
    State.reset.txen = false ∧
    ({ State.reset with faulted := some .txBeforeBegin } : State).faulted = some .txBeforeBegin := by decide

theorem witness_IllegalWordRaisesItsFault :
    ({ b0 with stimuli := [.word 0x100000#24] } : State).stimuli = .word 0x100000#24 :: [] ∧
    b0.faulted = none ∧ legalWord 0x100000#24 = false := by decide

/-- For TickCountsThenSamplesThenTransmits: no match, and a match at the wrap, each idle and transmitting. -/
theorem witness_TickCountsThenSamplesThenTransmits :
    ¬ (b0.sampleEn = true ∧ BitVec.ofNat 15 ((b0.tcnt.toNat + 1) % b0.cfg.m) = b0.ocr) ∧ b0.txBusy = false ∧
    ¬ (sending.sampleEn = true ∧ BitVec.ofNat 15 ((sending.tcnt.toNat + 1) % sending.cfg.m) = sending.ocr) ∧
    sending.txBusy = true ∧
    (∀ s ∈ [{ b0 with sampleEn := true, tcnt := 255#15 }, { sending with sampleEn := true, tcnt := 255#15 }],
      (s : State).sampleEn = true ∧ BitVec.ofNat 15 ((s.tcnt.toNat + 1) % s.cfg.m) = s.ocr) := by decide

/-- For SampleFiresAtCompareDistance: the compare target one TICK away, and equal to the count. -/
theorem witness_SampleFiresAtCompareDistance :
    let s : State := { b0 with tcnt := 255#15, ocr := 0#15, sampleEn := true }
    let u : State := { b0 with tcnt := 100#15, ocr := 100#15, sampleEn := true }
    s.cfg.Valid ∧ s.tcnt.toNat < s.cfg.m ∧ s.ocr.toNat < s.cfg.m ∧ s.sampleEn = true ∧ compareDistance s = 1 ∧
    u.tcnt.toNat < u.cfg.m ∧ u.sampleEn = true ∧ compareDistance u = 256 := by decide

/-- For IntervalMeasuredModuloWraps: intervals with one wrap and with two, at 2M - 1 and 2M. -/
theorem witness_IntervalMeasuredModuloWraps :
    let s : State := { b0 with tcnt := 10#15, lastTick := 10#15 }
    s.cfg.Valid ∧ s.lastTick.toNat < s.cfg.m ∧ s.tcnt = s.lastTick ∧ s.ovf = false ∧
    (s.lastTick.toNat + 501) / s.cfg.m ≤ 1 ∧ 2 ≤ (s.lastTick.toNat + 502) / s.cfg.m := by decide

/-- For IgnoredCrossingsChangeNothing: EN = 0, and an interval one below the noise floor. -/
theorem witness_IgnoredCrossingsChangeNothing : State.reset.en = false ∧
    let s := at' 100 20 109
    s.en = true ∧ s.cfg.Valid ∧ TimerInv s ∧ s.ovf = false ∧
    s.tcnt.toNat - s.lastTick.toNat < s.cfg.noiseFloor := by decide

/-- For AcceptedCrossing: an interval at the noise floor, and one over the wrap. -/
theorem witness_AcceptedCrossing :
    (let s := at' 100 20 110
     s.en = true ∧ s.cfg.Valid ∧ TimerInv s ∧ s.ovf = false ∧
      s.cfg.noiseFloor ≤ s.tcnt.toNat - s.lastTick.toNat) ∧
    let u : State := { at' 250 20 4 with ovf := true }
    u.en = true ∧ TimerInv u ∧ u.cfg.noiseFloor ≤ u.cfg.m - u.lastTick.toNat + u.tcnt.toNat := by decide

/-- For SmoothingNeverOverflows: the longest interval there is. -/
theorem witness_SmoothingNeverOverflows :
    let s : State := { at' 0 65535 255 with ovf := true }
    s.cfg.Valid ∧ TimerInv s ∧ s.en = true ∧ s.cfg.noiseFloor ≤ rawInterval s ∧ rawInterval s = 511 ∧
    (nextOf (exec .edge s)).isSome = true := by decide

/-- A crossing that opens the gate with LOW_COUNT already at `low` (V-C13). -/
def gate (low : Nat) : State := { at' 100 20 150 with lowCount := BitVec.ofNat 16 low }

/-- For FirstSampleDistance: LOW_COUNT below BIT_TICKS, at it, at BIT_TICKS + M, and above. -/
theorem witness_FirstSampleDistance :
    ∀ low ∈ [239, 240, 241, 496], (gate low).cfg.Valid ∧ TimerInv (gate low) ∧
      (gate low).cfg.startAlign = .compensated ∧
      view .edge (gate low) (fun t => (t.lowCount.toNat, decide (.startDetect t.lowCount ∈ ev t))) =
        some (low, true) := by decide

/-- For ByteReconstruction: eight states that shift in the bits of 0x01, lowest first. -/
theorem witness_ByteReconstruction :
    let f := fun k : Nat => sampling (.data (Fin.ofNat 8 k)) 0 (if k = 0 then 1 else 0)
      (if k = 0 then 0xFF#8 else BitVec.ofNat 8 (128 >>> (k - 1) + 255 >>> k)) 0
    (∀ k < 8, (f k).frameState = .data (Fin.ofNat 8 k)) ∧
    ∀ k < 8, view .sample (f k) (fun t => t.rxShift) = some (f (k + 1)).rxShift := by decide

/-- For FrameStateWriters: each of its three kinds of change. -/
theorem witness_FrameStateWriters :
    view .edge (gate 170) (fun t => t.frameState) = some .start ∧
    view .sample (sampling .start 1 0 0#8 0) (fun t => t.frameState) = some (.data 0) ∧
    view (.wrCtrlBegin 0#15) (sampling .stop 0 0 0#8 0) (fun t => t.frameState) = some .idle := by decide

/-- For FifoPushRule: a full FIFO, and one with a slot left, at the wrap. -/
theorem witness_FifoPushRule : (fullFifo.tail.toNat + 1) % fullFifo.cfg.depth = fullFifo.head.toNat ∧
    (let s : State := { b0 with head := 1#16, tail := 31#16 }
     (s.tail.toNat + 1) % s.cfg.depth ≠ s.head.toNat ∧ s.buf.wf) := by decide

/-- For FifoPopRule and ReceiveDataRead: an empty FIFO, and one with a byte in its first slot. -/
theorem witness_FifoPopRule : b0.head = b0.tail ∧ b0.txBusy = false ∧ oneByte.head ≠ oneByte.tail ∧
    oneByte.txBusy = false ∧ oneByte.buf.read oneByte.head.toNat = some 0x42#8 := by decide

/-- For FifoIsABoundedQueue and AvailZeroExactlyWhenReadIsNone: an empty FIFO and a full one. -/
theorem witness_FifoIsABoundedQueue : b0.cfg.Valid ∧ FifoInv b0 ∧ b0.txBusy = false ∧ fullFifo.cfg.Valid ∧
    fullFifo.txBusy = false ∧ fifoCount fullFifo = fullFifo.cfg.depth - 1 := by decide

theorem witness_full_FifoInv : FifoInv fullFifo := ⟨by decide, by decide, by decide, by decide, by decide⟩

/-- For the statements on a host access that is not held (WriteOnlyAndReservedReadsAreZero, DebugWindowReads,
ControlAndStatusReads, ReadOnlyWritesIgnored, BeginRule, EndRule) and on AVAIL. -/
theorem witness_not_held : b0.txBusy = false ∧ b0.cfg.Valid ∧ fullFifo.txBusy = false := by decide

theorem witness_HostAccessHeldWhileBusy : isHostAccess .rdReserved15 = true ∧ sending.txBusy = true := by decide

theorem witness_NoReactionWhileEnded : (endOp sending).en = false ∧ (endOp sending).sampleEn = false := by decide

/-- For WriteByteRule and EmitBitRule: each of the four cases (without a modulator: see the next witness). -/
theorem witness_WriteByteRule : sending.txBusy = true ∧
    (State.reset.txBusy = false ∧ State.reset.cfg.hasModulator = true ∧ State.reset.txen = false) ∧
    b0.txBusy = false ∧ b0.cfg.hasModulator = true ∧ b0.txen = true := by decide

theorem witness_TransmitIgnoredWithoutModulator :
    let s : State := { State.reset with cfg := { Config.reference with hasModulator := false } }
    s.txBusy = false ∧ s.cfg.hasModulator = false := by decide

/-- For TxStepRule: within a half-cycle, at the end of a bit, and at the end of the last bit. -/
theorem witness_TxStepRule :
    (sending.txWait = 0#16 ∧ sending.txHalf - 1#16 ≠ 0#16) ∧
    (let s : State := { sending with txWait := 1#16, txHalves := 0#16 }
     s.txWait ≠ 0#16 ∧ s.txWait - 1#16 = 0#16 ∧ s.txHalves = 0#16 ∧
      (s.txIdx + 1#4).toNat < s.txNbits.toNat) ∧
    let u : State := { sending with txWait := 1#16, txHalves := 0#16, txIdx := 12#4 }
    u.txWait - 1#16 = 0#16 ∧ u.txHalves = 0#16 ∧ u.txNbits.toNat ≤ (u.txIdx + 1#4).toNat := by decide

/-- For TransmissionTiming and ToneFrameIsTheLoopback: a write after a BEGIN. -/
theorem witness_TransmissionTiming : b0.cfg.Valid ∧ b0.cfg.TonesFit ∧ b0.txBusy = false ∧
    b0.cfg.hasModulator = true ∧ b0.txen = true ∧ (nextOf (exec (.wrTxdata 0#8 0x5A#8) b0)).isSome = true ∧
    (nextOf (exec (.wrTxbit 0#15 1#1) b0)).isSome = true := by decide

/-- For InvariantKeptByEveryStep and ConfigurationNeverChanges: a state with the invariant, in the middle of a
transmission, that has a next state. -/
theorem witness_InvariantKeptByEveryStep : ∃ t, step { sending with stimuli := [.word 0x000000#24] } = .next t :=
  ⟨_, rfl⟩

/-- For RegisterWriters: steps that change the registers it is about. -/
theorem witness_RegisterWriters : view .tick b0 (fun t => decide (t.tcnt ≠ b0.tcnt)) = some true ∧
    view (.wrCtrlEnd 0#15) b0 (fun t => decide (t.en ≠ b0.en)) = some true ∧
    view (.fifoPush 1#8) b0 (fun t => decide (t.tail ≠ b0.tail)) = some true ∧
    view .txstep sending (fun t => decide (t.txout ≠ sending.txout)) = some true ∧
    view (.illegal 1#24) b0 (fun t => decide (t.faulted ≠ b0.faulted)) = some true := by decide

/-- For RegisterWriters: a crossing that opens the gate sets SAMPLE_EN, one at a Low interval adds to LOW_COUNT, a
sample in Stop clears SAMPLE_EN, one in Start that decides Low clears LOW_COUNT, and a TX write sets TX_BUSY. -/
theorem witness_RegisterWriters_receiver :
    view .edge (gate 170) (fun t => decide (t.sampleEn ≠ (gate 170).sampleEn)) = some true ∧
    view .edge (at' 100 30 130) (fun t => t.lowCount) = some 29#16 ∧
    view .sample { sampling .stop 0 0 0#8 0 with sampleEn := true } (fun t => t.sampleEn) = some false ∧
    view .sample (sampling .start 2 1 0#8 0) (fun t => t.lowCount) = some 0#16 ∧
    view (.wrTxbit 0#15 1#1) b0 (fun t => decide (t.txBusy ≠ b0.txBusy)) = some true := by decide

/-- For ReceiverAndTransmitterIndependent: two states that differ in the transmitter alone, and two that differ in
the receiver alone. -/
theorem witness_ReceiverAndTransmitterIndependent : b0.txBusy ≠ sending.txBusy ∧ b0.tcnt ≠ (at' 0 0 9).tcnt :=
  by decide

theorem witness_SameReceiver : SameReceiver b0 sending :=
  ⟨rfl, rfl, rfl, rfl, rfl, rfl, rfl, rfl, rfl, rfl, rfl, rfl, rfl, rfl, rfl, rfl⟩

theorem witness_SameTransmitter : SameTransmitter b0 (at' 0 0 9) := ⟨rfl, rfl, rfl, rfl, rfl, rfl, rfl, rfl, rfl⟩

end Sys2Proof.Machine.Tests
end

/-! The family of 00_scope.md: what construction refuses (R7). -/

namespace Sys2Proof.Machine

theorem Constructible.valid {p : Params} (h : Constructible p) : (deriveConfig p).Valid := by
  obtain ⟨-, -, -, -, -, -, -, hvalid⟩ := h
  exact hvalid

/-- Construction refuses exactly the records that have no block. -/
theorem construct_eq_error_iff (p : Params) :
    construct p = .error .invalidConfig ↔ ¬ Constructible p := by
  unfold construct
  split
  case isTrue hp => simp [hp]
  case isFalse hp => simp [hp]

/-- Settles O11: a record that has a block keeps every range of R7, so one that breaks a range is refused. -/
theorem invalidConfigurationRefused : Obligations.InvalidConfigurationRefused := by
  intro p c hbroken
  have hnone : ¬ Constructible p := fun hp => hbroken hp.valid
  exact (construct_eq_error_iff p).2 hnone

end Sys2Proof.Machine

/-! The family of 10_state.md: what a hardware reset leaves (R50). -/

namespace Sys2Proof.Machine

/-- On a pending hardware reset, a run that is not faulted takes it off the list and applies it. -/
theorem step_eq_hardReset {s : State} {draw : Nat} {rest : List Stimulus}
    (hrun : s.faulted = none) (hpending : s.stimuli = .reset draw :: rest) :
    step s = .next (hardReset { s with stimuli := rest } draw) := by
  have hfetch : fetch s = .reset draw { s with stimuli := rest } := by
    simp only [fetch, hrun, hpending]
  simp only [step, hfetch]

/-- A valid configuration has M at most 32768, so the 15 bits of TCNT hold every draw below M. -/
theorem hardReset_tcnt_toNat {s : State} {draw : Nat} (hvalid : s.cfg.Valid) (hdraw : draw < s.cfg.m) :
    (hardReset s draw).tcnt.toNat = draw := by
  obtain ⟨-, hm, -⟩ := hvalid
  have hfits : draw < 2 ^ 15 := by omega
  rw [hardReset_tcnt, Nat.mod_eq_of_lt hdraw, BitVec.toNat_ofNat, Nat.mod_eq_of_lt hfits]

/-- Settles O13: the step applies `hardReset`, whose field lemmas give every register; only TCNT, which holds the
draw, needs the bounds. -/
theorem hardwareResetValues : Obligations.HardwareResetValues := by
  intro s draw rest hrun hpending hvalid hdraw
  have htcnt : (hardReset { s with stimuli := rest } draw).tcnt.toNat = draw :=
    hardReset_tcnt_toNat hvalid hdraw
  refine ⟨_, step_eq_hardReset hrun hpending, htcnt, ?_⟩
  simp

end Sys2Proof.Machine

/-! The family of 30_encoding.md: which words the decoder answers with ILLEGAL (R82, R88). -/

namespace Sys2Proof

/-- Every address is one of the sixteen of R61, so a read of a register is never ILLEGAL. -/
theorem decodeRead_ne_illegal (a : BitVec 4) (v : StimulusWord) : decodeRead a ≠ .illegal v := by
  unfold decodeRead
  split <;> exact nofun

/-- A write of a register is never ILLEGAL, whatever its DATA. -/
theorem decodeWrite_ne_illegal (a : BitVec 4) (d : Half) (v : StimulusWord) :
    decodeWrite a d ≠ .illegal v := by
  unfold decodeWrite
  split
  case h_1 => split <;> exact nofun
  all_goals exact nofun

/-- R82 as the spec words it, one field condition for each KIND that has one. -/
theorem legalWord_iff_fieldRules (w : StimulusWord) :
    legalWord w = true ↔
      rsvField w = 0#2 ∧
        (kindField w = 0b00#2 ∨ kindField w = 0b01#2 → addrField w = 0#4 ∧ dataField w = 0#16) ∧
        (kindField w = 0b10#2 → dataField w = 0#16) := by
  rw [legalWord_iff]
  refine and_congr_right fun _ => ?_
  rcases kind_cases (kindField w) with hkind | hkind | hkind | hkind <;> simp [hkind]

/-- A test of the decoder that answers ILLEGAL of the word when it fails, and a legal stimulus otherwise. -/
theorem ite_eq_illegal_iff {test : Prop} [Decidable test] {legal : Instr} {w v : StimulusWord}
    (hlegal : legal ≠ .illegal v) :
    (if test then legal else .illegal w) = .illegal v ↔ ¬ test ∧ v = w := by
  by_cases htest : test
  · simp [htest, hlegal]
  · simp [htest, eq_comm]

/-- The decoder rejects exactly the words that break R82, and an ILLEGAL carries the rejected word. -/
theorem decode_eq_illegal_iff (w v : StimulusWord) :
    decode w = .illegal v ↔ ¬ legalWord w = true ∧ v = w := by
  rw [legalWord_iff_fieldRules]
  by_cases hrsv : rsvField w = 0#2
  · rcases kind_cases (kindField w) with htick | hedge | hread | hwrite
    · simp [decode, hrsv, htick, ite_eq_illegal_iff]
    · simp [decode, hrsv, hedge, ite_eq_illegal_iff]
    · simp [decode, hrsv, hread, ite_eq_illegal_iff, decodeRead_ne_illegal]
    · simp [decode, hrsv, hwrite, decodeWrite_ne_illegal]
  · simp [decode, hrsv, eq_comm]

/-- Settles O3: the decoder rejects exactly the words that are not legal, and a word is legal exactly when it keeps
the field rules. -/
theorem illegalExactlyByFieldRules : Obligations.IllegalExactlyByFieldRules := by
  intro w
  constructor
  · calc decode w = .illegal w
      _ ↔ ¬ legalWord w = true := by simp [decode_eq_illegal_iff]
      _ ↔ _ := not_congr (legalWord_iff_fieldRules w)
  · intro v hillegal
    obtain ⟨-, hcarried⟩ := (decode_eq_illegal_iff w v).1 hillegal
    exact hcarried

end Sys2Proof

/-! The family of 40_timer.md: what one TICK does, and in which order (R100 to R104). -/

namespace Sys2Proof.Machine

/-! ### The count and the match -/

/-- R103's condition, of the state whose TCNT is already advanced. -/
theorem compareMatch_iff (s : State) : compareMatch s = true ↔ s.sampleEn = true ∧ s.tcnt = s.ocr := by
  simp [compareMatch]

/-- R101 and R102 as the spec words them: OVF is set on the wrap to 0 and kept otherwise. -/
theorem countTick_quiet_eq (s : State) :
    countTick s.quiet =
      { s with
        tcnt := BitVec.ofNat 15 ((s.tcnt.toNat + 1) % s.cfg.m)
        ovf := if (s.tcnt.toNat + 1) % s.cfg.m = 0 then true else s.ovf
        out := ⟨[], .none⟩ } := by
  have hovf : overflowAfterTick s = if (s.tcnt.toNat + 1) % s.cfg.m = 0 then true else s.ovf := by
    by_cases hwrap : (s.tcnt.toNat + 1) % s.cfg.m = 0 <;> simp [overflowAfterTick, nextCount, hwrap]
  rw [← hovf]
  rfl

/-- Without a match, TICK is the count and then TXSTEP during a transmission. -/
theorem tick_of_not_match {s : State} (hmatch : ¬ compareMatch (countTick s) = true) :
    tick s = if s.txBusy then txStep (countTick s) else countTick s := by
  simp [tick, hmatch]

/-- At a match, SAMPLE comes between the count and TXSTEP; it neither starts nor ends a transmission. -/
theorem tick_of_match {s : State} (hmatch : compareMatch (countTick s) = true) :
    tick s = if s.txBusy then txStep (sample (countTick s)) else sample (countTick s) := by
  obtain ⟨-, hbusy, -⟩ := sample_sameTransmitter (countTick s)
  simp [tick, hmatch, ← hbusy]

/-! ### The events of two operations in one step -/

/-- The end of a bit does not read the observation. -/
theorem txAdvance_with_out (s : State) (o : Output) :
    txAdvance { s with out := o } = { txAdvance s with out := o } := by
  rw [txAdvance_eq, txAdvance_eq]
  split <;> rfl

/-- The end of a bit emits nothing and answers nothing. -/
theorem txAdvance_out (s : State) : (txAdvance s).out = s.out := by
  rw [txAdvance_eq]
  split <;> rfl

/-- The half-cycle's event comes after the events that were there. -/
theorem txToggle_eq_quiet (s : State) :
    txToggle s =
      { txToggle s.quiet with
        out := ⟨s.out.events ++ (txToggle s.quiet).out.events, s.out.response⟩ } := by
  rw [txToggle_eq, txToggle_eq]
  rfl

/-- TXSTEP after other events of the same step: its own events follow them, and all else is as if it ran alone. -/
theorem txStep_eq_quiet (s : State) :
    txStep s =
      { txStep s.quiet with out := ⟨s.out.events ++ (txStep s.quiet).out.events, s.out.response⟩ } := by
  simp only [txStep]
  rw [txToggle_eq_quiet s]
  split
  · rw [txAdvance_out]
    exact txAdvance_with_out { txToggle s.quiet with txWait := (txToggle s.quiet).txWait - 1#16 } _
  · rfl

/-! ### TICK as an instruction -/

theorem exec_tick (s : State) : exec .tick s = .next (tick s.quiet) := rfl

theorem exec_sample (s : State) : exec .sample s = .next (sample s.quiet) := rfl

theorem exec_txstep (s : State) : exec .txstep s = .next (txStep s.quiet) := rfl

/-- Settles O22: the match decides whether SAMPLE follows the count, and TX_BUSY whether TXSTEP comes last. The state
`c` after the count has an empty observation, so an instruction that starts from it loses nothing; only TXSTEP after
SAMPLE finds events before its own. -/
theorem tickCountsThenSamplesThenTransmits : Obligations.TickCountsThenSamplesThenTransmits := by
  intro s
  rw [← countTick_quiet_eq]
  intro c
  have hquiet : c.quiet = c := rfl
  have hmissed (hmiss : ¬ (s.sampleEn = true ∧ c.tcnt = s.ocr)) :
      exec .tick s = .next (if s.txBusy then txStep c else c) := by
    rw [exec_tick, tick_of_not_match (mt (compareMatch_iff c).1 hmiss)]
    rfl
  have hmatched (hen : s.sampleEn = true) (htarget : c.tcnt = s.ocr) :
      exec .tick s = .next (if s.txBusy then txStep (sample c) else sample c) := by
    rw [exec_tick, tick_of_match ((compareMatch_iff c).2 ⟨hen, htarget⟩)]
    rfl
  refine ⟨?countOnly, ?countSample, ?countTxstep, ?countSampleTxstep⟩
  case countOnly =>
    intro hmiss hbusy
    simp [hmissed hmiss, hbusy]
  case countSample =>
    intro hen htarget hbusy
    simp [hmatched hen htarget, hbusy, exec_sample, hquiet]
  case countTxstep =>
    intro hmiss hbusy
    simp [hmissed hmiss, hbusy, exec_txstep, hquiet]
  case countSampleTxstep =>
    intro hen htarget hbusy
    have hresponse : (sample c).out.response = .none := by
      obtain ⟨-, -, -, -, -, -, -, -, -, -, -, -, hkept⟩ := sample_frame c
      exact hkept
    refine ⟨sample c, txStep (sample c).quiet, by rw [exec_sample, hquiet], exec_txstep _, ?_⟩
    rw [← hresponse, ← txStep_eq_quiet]
    simp [hmatched hen htarget, hbusy]

end Sys2Proof.Machine

/-! The family of 41_classifier.md: what a crossing does, ignored or accepted (R120 to R131). -/

namespace Sys2Proof.Machine

/-! ### EDGE as an instruction, in its three cases -/

theorem exec_edge (s : State) : exec .edge s = .next (edge s.quiet) := rfl

theorem exec_edge_of_ended {s : State} (hended : s.en = false) : exec .edge s = .next s.quiet := by
  simp [exec_edge, edge, hended]

theorem rawInterval_quiet (s : State) : rawInterval s.quiet = rawInterval s := rfl

theorem exec_edge_of_noise {s : State} (hen : s.en = true) (hnoise : rawInterval s < s.cfg.noiseFloor) :
    exec .edge s = .next (s.quiet.emit (.noiseDiscard (BitVec.ofNat 16 (rawInterval s)))) := by
  simp [exec_edge, edge, hen, rawInterval_quiet, hnoise]

theorem exec_edge_of_accepted {s : State} (hen : s.en = true)
    (haccepted : s.cfg.noiseFloor ≤ rawInterval s) :
    exec .edge s =
      .next (startGate (accumulate (rawInterval s) (acceptCrossing (rawInterval s) s.quiet))) := by
  simp [exec_edge, edge, hen, rawInterval_quiet, Nat.not_lt.2 haccepted]

/-- Settles O25: EN = 0 and the noise floor are the first two tests of EDGE, and neither branch writes a register;
the timer invariant makes the raw interval the plain difference. -/
theorem ignoredCrossingsChangeNothing : Obligations.IgnoredCrossingsChangeNothing := by
  refine ⟨?ended, ?noise⟩
  case ended =>
    intro s hended
    exact exec_edge_of_ended hended
  case noise =>
    intro s hen _ hinv raw hnoise
    have hraw : rawInterval s = raw := rawInterval_eq hinv
    rw [exec_edge_of_noise hen (hraw.trans_lt hnoise), hraw]
    rfl

/-! ### The filter, the bands and the first target, as the spec words them -/

/-- R124 with its shifts as the exact quotients. -/
theorem smoothed_eq (raw : Nat) (prev : Half) :
    smoothed raw prev = BitVec.ofNat 16 (raw / 2 + raw / 4 + prev.toNat / 4) := by
  simp [smoothed, Nat.shiftRight_eq_div_pow]

theorem classify_eq_high_iff (c : Config) (sm : Half) :
    classify c sm = .high ↔ c.highLo ≤ sm.toNat ∧ sm.toNat ≤ c.highHi := by
  unfold classify
  split
  case isTrue hhigh => simp [hhigh]
  case isFalse hhigh => split <;> simp [hhigh]

/-- The Low band counts only outside the High band (R126). -/
theorem classify_eq_low_iff (c : Config) (sm : Half) :
    classify c sm = .low ↔
      ¬ (c.highLo ≤ sm.toNat ∧ sm.toNat ≤ c.highHi) ∧ c.lowLo ≤ sm.toNat ∧ sm.toNat ≤ c.lowHi := by
  unfold classify
  split
  case isTrue hhigh => simp [hhigh]
  case isFalse hhigh => by_cases hlow : c.lowLo ≤ sm.toNat ∧ sm.toNat ≤ c.lowHi <;> simp [hhigh, hlow]

theorem classify_eq_miss_iff (c : Config) (sm : Half) :
    classify c sm = .miss ↔ ¬ (classify c sm = .high ∨ classify c sm = .low) := by
  cases classify c sm <;> simp

theorem firstTarget_of_compensated {s : State} (halign : s.cfg.startAlign = .compensated) :
    firstTarget s =
      BitVec.ofNat 15 (((s.tcnt.toNat : Int) + s.cfg.bitTicks - s.lowCount.toNat) % s.cfg.m).toNat := by
  simp [firstTarget, halign, subMod]

theorem firstTarget_of_now {s : State} (halign : s.cfg.startAlign = .now) :
    firstTarget s = BitVec.ofNat 15 ((s.tcnt.toNat + s.cfg.bitTicks) % s.cfg.m) := by
  simp [firstTarget, halign]

/-! ### An accepted crossing -/

/-- The state between accumulation and the start gate, when the raw interval is `raw`. -/
theorem accumulate_acceptCrossing_eq (raw : Nat) (s : State) {sm lc hc : Half} {miss : List Event}
    (hsm : smoothed raw s.prevSmooth = sm)
    (hhc : (if classify s.cfg sm = .high then s.highCount + sm else s.highCount) = hc)
    (hlc : (if classify s.cfg sm = .low then s.lowCount + sm else s.lowCount) = lc)
    (hmiss : (if classify s.cfg sm = .miss then [.classMiss (BitVec.ofNat 16 raw) sm] else []) = miss) :
    accumulate raw (acceptCrossing raw s.quiet) =
      { s with
        lastTick := s.tcnt, ovf := false, prevSmooth := sm, lowCount := lc, highCount := hc,
        out := ⟨miss, .none⟩ } := by
  subst hsm hhc hlc hmiss
  rw [accumulate_eq]
  rfl

/-- Settles O26: accumulation gives the state the start gate sees, named by what the statement calls `sm`, `hc`, `lc`
and `miss`; the gate then either leaves it or writes the start detection, whose compare target is `target` for both
alignments. -/
theorem acceptedCrossing : Obligations.AcceptedCrossing := by
  intro s hen _ hinv raw sm high low hc lc miss target haccepted
  have hraw : rawInterval s = raw := rawInterval_eq hinv
  have hhigh : classify s.cfg sm = .high ↔ high = true := by
    simp [classify_eq_high_iff, high]
  have hlow : classify s.cfg sm = .low ↔ low = true := by
    simp only [classify_eq_low_iff, low, high, Bool.and_eq_true, Bool.not_eq_true', decide_eq_false_iff_not,
      decide_eq_true_eq]
  have hnone : classify s.cfg sm = .miss ↔ ¬ (high || low) = true := by
    rw [classify_eq_miss_iff, hhigh, hlow, Bool.or_eq_true]
  have haccum := accumulate_acceptCrossing_eq raw s (sm := sm) (hc := hc) (lc := lc) (miss := miss)
    (smoothed_eq raw s.prevSmooth)
    (by simp only [hhigh, BitVec.add_def, hc])
    (by simp only [hlow, BitVec.add_def, lc])
    (by simp only [hnone, ite_not, miss])
  have htarget : firstTarget
      { s with
        lastTick := s.tcnt, ovf := false, prevSmooth := sm, lowCount := lc, highCount := hc,
        out := ⟨miss, .none⟩ } = target := by
    simp only [target]
    split
    case h_1 halign => exact firstTarget_of_compensated halign
    case h_2 halign => exact firstTarget_of_now halign
  rw [exec_edge_of_accepted hen (haccepted.trans_eq hraw.symm), hraw, haccum, startGate_eq, htarget]

end Sys2Proof.Machine

/-! The family of 42_frame.md: the whole next state of SAMPLE, row by row of the transition table (R151 to R164). -/

namespace Sys2Proof.Machine

/-! ### The shift and the data states, as the spec words them -/

/-- R157 as the spec's `(bit << 7) | (RX_SHIFT >> 1)`, in numbers. -/
theorem shiftIn_toNat (bit : Bool) (r : Byte) :
    (shiftIn bit r).toNat = (if bit then 128 else 0) ||| r.toNat / 2 := by
  cases bit <;> simp [shiftIn, Nat.shiftRight_eq_div_pow]

/-- R157 as a sum: the shifted byte leaves bit 7 free for the decided bit. -/
theorem shiftIn_eq (bit : Bool) (r : Byte) :
    shiftIn bit r = BitVec.ofNat 8 ((if bit then 128 else 0) + r.toNat / 2) := by
  have hhalf : r.toNat / 2 < 2 ^ 7 := by
    have hbyte := r.isLt
    omega
  have hor : (if bit then 128 else 0) ||| r.toNat / 2 = (if bit then 128 else 0) + r.toNat / 2 := by
    cases bit
    case false => simp
    case true => exact (Nat.two_pow_add_eq_or_of_lt hhalf 1).symm
  rw [← hor, ← shiftIn_toNat, BitVec.ofNat_toNat, BitVec.setWidth_eq]

/-- R158 with the last data state told apart by its number. -/
theorem afterData_eq (i : Fin 8) : afterData i = if i = 7 then .parity else .data (i + 1) := by
  unfold afterData
  split
  case isTrue hbefore => rw [if_neg (by omega)]
  case isFalse hlast => rw [if_pos (by omega)]

/-! ### The rows of the table

What the transition does to any state in each frame state, with ResetDecided and the push written out. -/

theorem frameTransition_of_idle {s : State} (bit : Bool) (hrow : s.frameState = .idle) :
    frameTransition bit s = s := by
  simp [frameTransition, hrow]

theorem frameTransition_of_start {s : State} (bit : Bool) (hrow : s.frameState = .start) :
    frameTransition bit s =
      if bit then State.emit .falseStart { s with frameState := .idle }
      else
        { s with
          frameState := .data 0
          lowCount := if s.cfg.symReset || !bit then 0#16 else s.lowCount
          highCount := if s.cfg.symReset || bit then 0#16 else s.highCount } := by
  simp only [frameTransition, hrow, resetDecided_eq]

theorem frameTransition_of_data {s : State} (bit : Bool) {i : Fin 8} (hrow : s.frameState = .data i) :
    frameTransition bit s =
      { s with
        rxShift := BitVec.ofNat 8 ((if bit then 128 else 0) + s.rxShift.toNat / 2)
        frameState := if i = 7 then .parity else .data (i + 1)
        lowCount := if s.cfg.symReset || !bit then 0#16 else s.lowCount
        highCount := if s.cfg.symReset || bit then 0#16 else s.highCount } := by
  simp only [frameTransition, hrow, resetDecided_eq, shiftIn_eq, afterData_eq]

theorem frameTransition_of_parity {s : State} (bit : Bool) (hrow : s.frameState = .parity) :
    frameTransition bit s =
      { s with
        frameState := .stop
        lowCount := if s.cfg.symReset || !bit then 0#16 else s.lowCount
        highCount := if s.cfg.symReset || bit then 0#16 else s.highCount } := by
  simp only [frameTransition, hrow, resetDecided_eq]

theorem frameTransition_of_stop {s : State} (bit : Bool) (hrow : s.frameState = .stop) :
    frameTransition bit s =
      if (s.tail.toNat + 1) % s.cfg.depth = s.head.toNat then
        State.emit (.bufferOverrun s.rxShift) { s with frameState := .idle, sampleEn := false }
      else
        State.emit (.byteReceived s.rxShift)
          { s with
            frameState := .idle, sampleEn := false
            buf := s.buf.write s.tail.toNat s.rxShift
            tail := BitVec.ofNat 16 ((s.tail.toNat + 1) % s.cfg.depth) } := by
  simp only [frameTransition, hrow, fifoPush_eq]
  split <;> rfl

/-! ### SAMPLE as an instruction -/

/-- The state the transition acts on: `s` rescheduled (R151), the decision its only event so far (R152). -/
def afterDecision (s : State) : State :=
  { s with ocr := nextTarget s, out := ⟨[.bitSample s.frameState (decideBit s)], .none⟩ }

theorem exec_sample_eq_frameTransition (s : State) :
    exec .sample s = .next (frameTransition (decideBit s) (afterDecision s)) := rfl

/-- Settles O29: SAMPLE is the transition on the rescheduled state, and each frame state is one row of the transition,
with the statement's `bit`, `target` and `seen` for the decision, the new OCR and the first event. -/
theorem sampleTransitionTable : Obligations.SampleTransitionTable := by
  intro s bit target lc hc seen
  rw [exec_sample_eq_frameTransition]
  congr 1
  split
  case h_1 hidle => exact frameTransition_of_idle (s := afterDecision s) bit hidle
  case h_2 hstart => exact frameTransition_of_start (s := afterDecision s) bit hstart
  case h_3 i hdata => exact frameTransition_of_data (s := afterDecision s) bit hdata
  case h_4 hparity => exact frameTransition_of_parity (s := afterDecision s) bit hparity
  case h_5 hstop => exact frameTransition_of_stop (s := afterDecision s) bit hstop

end Sys2Proof.Machine

/-! The family of 43_fifo_host.md: the FIFO's primitives, the host's reads, the ignored writes, BEGIN and END
(R180 to R200). -/

namespace Sys2Proof.Machine

/-! ### FifoPush and FifoPop as instructions -/

theorem exec_fifoPush (v : Byte) (s : State) : exec (.fifoPush v) s = .next (fifoPush v s.quiet) := rfl

theorem exec_fifoPop (s : State) :
    exec .fifoPop s = .next ((fifoPop s.quiet).respond (.popped (popResult s))) := rfl

theorem exec_fifoPush_of_full {v : Byte} {s : State}
    (hfull : (s.tail.toNat + 1) % s.cfg.depth = s.head.toNat) :
    exec (.fifoPush v) s = .next { s with out := ⟨[.bufferOverrun v], .none⟩ } := by
  rw [exec_fifoPush, fifoPush_eq]
  exact congrArg Host.Outcome.next (if_pos hfull)

theorem exec_fifoPush_of_not_full {v : Byte} {s : State}
    (hroom : (s.tail.toNat + 1) % s.cfg.depth ≠ s.head.toNat) :
    exec (.fifoPush v) s = .next
      { s with
        buf := s.buf.write s.tail.toNat v
        tail := BitVec.ofNat 16 ((s.tail.toNat + 1) % s.cfg.depth)
        out := ⟨[.byteReceived v], .none⟩ } := by
  rw [exec_fifoPush, fifoPush_eq]
  exact congrArg Host.Outcome.next (if_neg hroom)

/-- Settles O32: the two cases of a push; the new BUF is one write at TAIL, so the storage laws give its form, the
slot at TAIL and every other slot. -/
theorem fifoPushRule : Obligations.FifoPushRule := by
  intro v s
  refine ⟨exec_fifoPush_of_full, fun hroom => ?_⟩
  refine ⟨s.buf.write s.tail.toNat v, exec_fifoPush_of_not_full hroom, fun hwf => ⟨?form, ?stored, ?others⟩⟩
  case form => exact Memory.write_wf hwf _ _
  case stored => exact Memory.read_write_same _ _ _
  case others => exact fun a hother => Memory.read_write_other v hother

/-- R181 for an empty FIFO, with the response of the agent that pops. -/
theorem fifoPop_quiet_respond_of_empty {s : State} (hempty : s.head = s.tail) (r : Response) :
    (fifoPop s.quiet).respond r = { s with out := ⟨[.notAvailable], r⟩ } := by
  rw [fifoPop_eq]
  exact congrArg (State.respond r) (if_pos hempty)

/-- R181 for a FIFO with a byte, with the response of the agent that pops. -/
theorem fifoPop_quiet_respond_of_not_empty {s : State} (hbyte : s.head ≠ s.tail) (r : Response) :
    (fifoPop s.quiet).respond r =
      { s with head := BitVec.ofNat 16 ((s.head.toNat + 1) % s.cfg.depth), out := ⟨[], r⟩ } := by
  rw [fifoPop_eq]
  exact congrArg (State.respond r) (if_neg hbyte)

theorem popResult_of_empty {s : State} (hempty : s.head = s.tail) : popResult s = none := by
  rw [popResult_eq, if_pos hempty]

theorem popResult_of_not_empty {s : State} (hbyte : s.head ≠ s.tail) :
    popResult s = some (slotByte s s.head.toNat) := by
  rw [popResult_eq, if_neg hbyte]

/-- Settles O33: the two cases of a pop; the byte is the one of the slot at HEAD, which is the byte stored there
where a push has written it. -/
theorem fifoPopRule : Obligations.FifoPopRule := by
  intro s
  refine ⟨fun hempty => ?empty, fun hbyte => ⟨slotByte s s.head.toNat, fun v => slotByte_of_read, ?byte⟩⟩
  case empty =>
    rw [exec_fifoPop, popResult_of_empty hempty, fifoPop_quiet_respond_of_empty hempty]
  case byte =>
    rw [exec_fifoPop, popResult_of_not_empty hbyte, fifoPop_quiet_respond_of_not_empty hbyte]

/-! ### RD RXDATA -/

theorem exec_rdRxdata_of_free {s : State} (hfree : s.txBusy = false) :
    exec .rdRxdata s = .next ((fifoPop s.quiet).respond (.value (rxdataImage (popResult s)))) :=
  hostAccess_free hfree fun t => (fifoPop t).respond (.value (rxdataImage (popResult t)))

theorem rxdataImage_none : rxdataImage none = 0x0000#16 := rfl

/-- VALID is above the byte, so the two do not overlap and R54's `|` is a sum. -/
theorem rxdataImage_some (b : Byte) : rxdataImage (some b) = BitVec.ofNat 16 (0x0100 + b.toNat) := by
  have hbyte := b.isLt
  have hwide : (b.setWidth 16).toNat = b.toNat := BitVec.toNat_setWidth_of_le (by decide)
  have hsum : 0x0100 + b.toNat = 0x0100 ||| b.toNat := Nat.two_pow_add_eq_or_of_lt hbyte 1
  have hfits : 0x0100 + b.toNat < 2 ^ 16 := by omega
  apply BitVec.eq_of_toNat_eq
  rw [BitVec.toNat_ofNat, Nat.mod_eq_of_lt hfits, hsum, rxdataImage, BitVec.toNat_or, hwide]
  rfl

/-- Settles O34: the read is the pop of O33, answered with the image of what it popped. -/
theorem receiveDataRead : Obligations.ReceiveDataRead := by
  intro s hfree
  refine ⟨fun hempty => ?empty, fun hbyte => ⟨slotByte s s.head.toNat, fun v => slotByte_of_read, ?byte⟩⟩
  case empty =>
    rw [exec_rdRxdata_of_free hfree, popResult_of_empty hempty, fifoPop_quiet_respond_of_empty hempty,
        rxdataImage_none]
  case byte =>
    rw [exec_rdRxdata_of_free hfree, popResult_of_not_empty hbyte, fifoPop_quiet_respond_of_not_empty hbyte,
        rxdataImage_some]

/-! ### The register images as numbers -/

theorem bitHalf_toNat (b : Bool) : (bitHalf b).toNat = b.toNat := by
  cases b <;> rfl

theorem timerImage_toNat (t : TimerWord) : (timerImage t).toNat = t.toNat :=
  BitVec.toNat_setWidth_of_le (by decide)

theorem rxShiftImage_toNat (s : State) : (rxShiftImage s).toNat = s.rxShift.toNat :=
  BitVec.toNat_setWidth_of_le (by decide)

/-- A field placed above the bits that are taken adds its value at its place. -/
theorem or_shiftLeft_toNat {low field : Half} {n f : Nat} (k : Nat) (hlow : low.toNat = n)
    (hfield : field.toNat = f) (hbelow : n < 2 ^ k) (hfits : 2 ^ k * f < 2 ^ 16) :
    (low ||| (field <<< k)).toNat = n + 2 ^ k * f := by
  have hplaced : (field <<< k).toNat = 2 ^ k * f := by
    rw [BitVec.toNat_shiftLeft, Nat.shiftLeft_eq, hfield, Nat.mul_comm, Nat.mod_eq_of_lt hfits]
  rw [BitVec.toNat_or, hplaced, hlow, Nat.or_comm, ← Nat.two_pow_add_eq_or_of_lt hbelow, Nat.add_comm]

theorem FrameState.code_data_toNat (i : Fin 8) : (FrameState.data i).code.toNat = 2 + i.val :=
  Nat.mod_eq_of_lt (by omega)

theorem ctrlImage_toNat (s : State) : (ctrlImage s).toNat = s.en.toNat := bitHalf_toNat s.en

/-- R189's `|` of fields at different places is a sum: each field is above the sum of those before it. -/
theorem statusImage_toNat (s : State) :
    (statusImage s).toNat =
      s.en.toNat + 2 * s.sampleEn.toNat + 4 * s.txBusy.toNat + 8 * s.ovf.toNat + 16 * s.txen.toNat +
        32 * s.txout.toNat + 256 * s.frameState.code.toNat := by
  have hen := s.en.toNat_lt
  have hsampleEn := s.sampleEn.toNat_lt
  have hbusy := s.txBusy.toNat_lt
  have hovf := s.ovf.toNat_lt
  have htxen := s.txen.toNat_lt
  have htxout := s.txout.toNat_lt
  have hcode := s.frameState.code.isLt
  have hwide : (s.frameState.code.setWidth 16).toNat = s.frameState.code.toNat :=
    BitVec.toNat_setWidth_of_le (by decide)
  have hbit1 := or_shiftLeft_toNat 1 (bitHalf_toNat s.en) (bitHalf_toNat s.sampleEn) (by omega) (by omega)
  have hbit2 := or_shiftLeft_toNat 2 hbit1 (bitHalf_toNat s.txBusy) (by omega) (by omega)
  have hbit3 := or_shiftLeft_toNat 3 hbit2 (bitHalf_toNat s.ovf) (by omega) (by omega)
  have hbit4 := or_shiftLeft_toNat 4 hbit3 (bitHalf_toNat s.txen) (by omega) (by omega)
  have hbit5 := or_shiftLeft_toNat 5 hbit4 (bitHalf_toNat s.txout) (by omega) (by omega)
  exact or_shiftLeft_toNat 8 hbit5 hwide (by omega) (by omega)

/-- R182: the count of stored bytes is in [0, DEPTH - 1]. -/
theorem fifoCount_lt_depth {s : State} (hvalid : s.cfg.Valid) : fifoCount s < s.cfg.depth := by
  obtain ⟨-, -, -, -, -, -, -, -, hdepth, -⟩ := hvalid
  exact subMod_lt _ _ (by omega)

/-- A valid FIFO has at most 65536 slots, so the 16 bits of AVAIL hold every count. -/
theorem availImage_toNat {s : State} (hvalid : s.cfg.Valid) : (availImage s).toNat = fifoCount s := by
  have hcount := fifoCount_lt_depth hvalid
  obtain ⟨-, -, -, -, -, -, -, -, -, hdepth, -⟩ := hvalid
  exact Nat.mod_eq_of_lt (by omega)

/-! ### The reads without side effect

Each is `hostRead` of a register image, so `hostRead_free` gives its whole next state. -/

/-- Settles O37: CTRL is EN alone; STATUS is the sum of its fields, with TX_BUSY 0 in a read that is not held and the
code of each frame state. -/
theorem controlAndStatusReads : Obligations.ControlAndStatusReads := by
  intro s hfree
  refine ⟨⟨ctrlImage s, ctrlImage_toNat s, hostRead_free hfree ctrlImage⟩,
    ⟨statusImage s, ?_, hostRead_free hfree statusImage⟩⟩
  rw [statusImage_toNat, hfree]
  cases s.frameState with
  | idle => rfl
  | start => rfl
  | data i => rw [FrameState.code_data_toNat]; rfl
  | parity => rfl
  | stop => rfl

/-- Settles O38: the count is a remainder modulo DEPTH, which is positive. -/
theorem availRead : Obligations.AvailRead := by
  intro s hfree hvalid
  have hcount := fifoCount_lt_depth hvalid
  refine ⟨availImage s, ?remainder, ?bound, hostRead_free hfree availImage⟩
  case remainder =>
    rw [availImage_toNat hvalid]
    exact subMod_cast _ _ (Nat.zero_lt_of_lt hcount)
  case bound =>
    rw [availImage_toNat hvalid]
    exact Nat.le_sub_one_of_lt hcount

/-- Settles O40: the eight registers in the order of the statement, each with the image its read answers. -/
theorem debugWindowReads : Obligations.DebugWindowReads := by
  intro s hfree p hp
  fin_cases hp
  · exact ⟨s.lowCount, rfl, hostRead_free hfree fun t => t.lowCount⟩
  · exact ⟨s.highCount, rfl, hostRead_free hfree fun t => t.highCount⟩
  · exact ⟨timerImage s.tcnt, timerImage_toNat _, hostRead_free hfree fun t => timerImage t.tcnt⟩
  · exact ⟨timerImage s.ocr, timerImage_toNat _, hostRead_free hfree fun t => timerImage t.ocr⟩
  · exact ⟨timerImage s.lastTick, timerImage_toNat _, hostRead_free hfree fun t => timerImage t.lastTick⟩
  · exact ⟨s.prevSmooth, rfl, hostRead_free hfree fun t => t.prevSmooth⟩
  · exact ⟨rxShiftImage s, rxShiftImage_toNat s, hostRead_free hfree rxShiftImage⟩
  · exact ⟨timerImage s.bwo, timerImage_toNat _, hostRead_free hfree fun t => timerImage t.bwo⟩

/-- Settles O39: the four reads are one read, of the constant 0. -/
theorem writeOnlyAndReservedReadsAreZero : Obligations.WriteOnlyAndReservedReadsAreZero := by
  intro s hfree i hi
  have hread : exec i s = hostRead s (fun _ => 0#16) := by fin_cases hi <;> rfl
  rw [hread, hostRead_free hfree]

/-! ### The writes -/

/-- Settles O42: the thirteen writes are one write, which is ignored. -/
theorem readOnlyWritesIgnored : Obligations.ReadOnlyWritesIgnored := by
  intro s d hfree i hi
  have hwrite : exec i s = hostAccess s (ignoreWrite d) := by fin_cases hi <;> rfl
  rw [hwrite]
  exact hostAccess_free hfree (ignoreWrite d)

theorem exec_wrCtrlBegin_of_free (x : BitVec 15) {s : State} (hfree : s.txBusy = false) :
    exec (.wrCtrlBegin x) s = .next (beginOp s.quiet) :=
  hostAccess_free hfree beginOp

theorem exec_wrCtrlEnd_of_free (x : BitVec 15) {s : State} (hfree : s.txBusy = false) :
    exec (.wrCtrlEnd x) s = .next (endOp s.quiet) :=
  hostAccess_free hfree endOp

/-- Settles O43: BEGIN is `beginOp`, which makes the ten assignments of the rule, on a state without an observation. -/
theorem beginRule : Obligations.BeginRule := by
  intro x s hfree
  exact exec_wrCtrlBegin_of_free x hfree

/-- A second END finds what the first has written. -/
theorem endOp_quiet_endOp_quiet (s : State) : endOp (endOp s.quiet).quiet = endOp s.quiet := rfl

/-- Settles O44: END leaves TX_BUSY alone, so the second END is not held either. -/
theorem endRule : Obligations.EndRule := by
  intro x y s hfree
  have hfree' : (endOp s.quiet).txBusy = false := hfree
  refine ⟨endOp s.quiet, exec_wrCtrlEnd_of_free x hfree, rfl, ?_⟩
  rw [exec_wrCtrlEnd_of_free y hfree', endOp_quiet_endOp_quiet]

end Sys2Proof.Machine

/-! The family of 44_modulator.md: the transmit frame, the two TX writes and the modulator step (R210 to R215). -/

namespace Sys2Proof.Machine

/-! ### The tone of a bit -/

/-- R214 as the spec words it, with the tone of `x` written out. -/
theorem loadBit_eq (x : Bool) (s : State) :
    loadBit x s =
      { s with
        txHalf := BitVec.ofNat 16 (if x then s.cfg.highNom else s.cfg.lowNom)
        txHalves := BitVec.ofNat 16 (if x then 2 * s.cfg.highCyc else 2 * s.cfg.lowCyc)
        txWait := 0#16 } := by
  cases x <;> rfl

/-! ### The TX writes -/

/-- A TX write of any bits, in its four cases; R210 and R211 differ only in what they send. -/
theorem hostAccess_transmitWrite (f : BitVec 13) (n : BitVec 4) (s : State) :
    (s.txBusy = true → hostAccess s (transmitWrite f n) = .next { s with out := ⟨[], .held⟩ }) ∧
    (s.txBusy = false → s.cfg.hasModulator = false →
      hostAccess s (transmitWrite f n) = .next { s with out := ⟨[], .none⟩ }) ∧
    (s.txBusy = false → s.cfg.hasModulator = true → s.txen = false →
      hostAccess s (transmitWrite f n) =
        .next { s with faulted := some .txBeforeBegin, out := ⟨[], .none⟩ }) ∧
    (s.txBusy = false → s.cfg.hasModulator = true → s.txen = true →
      hostAccess s (transmitWrite f n) = .next (startTransmission f n s.quiet)) := by
  refine ⟨fun hbusy => hostAccess_busy hbusy _, fun hfree hmod => ?ignored, fun hfree hmod htxen => ?fault,
    fun hfree hmod htxen => ?start⟩
  all_goals
    rw [hostAccess_free hfree]
    congr 1
  case ignored => exact if_neg (ne_true_of_eq_false hmod)
  case fault => exact (if_pos hmod).trans (if_neg (ne_true_of_eq_false htxen))
  case start => exact (if_pos hmod).trans (if_pos htxen)

/-- The first bit a frame sends is the High carrier. -/
theorem frameOf_getLsbD_zero (b : Byte) : (frameOf b).getLsbD 0 = true := by
  simp [frameOf]

/-- Settles O47: the TX write of the frame, whose first bit is 1, so that the High tone is loaded. -/
theorem writeByteRule : Obligations.WriteByteRule := by
  intro x b s
  obtain ⟨hheld, hignored, hfault, hstart⟩ := hostAccess_transmitWrite (frameOf b) 13#4 s
  refine ⟨hheld, hignored, hfault, fun hfree hmod htxen => (hstart hfree hmod htxen).trans ?_⟩
  rw [startTransmission, frameOf_getLsbD_zero]
  rfl

theorem setWidth_getLsbD_zero_iff (b : BitVec 1) : (b.setWidth 13).getLsbD 0 = true ↔ b = 1#1 := by
  revert b
  decide

/-- Settles O48: the TX write of the one bit, widened to a frame; the tone loaded is that of the bit. -/
theorem emitBitRule : Obligations.EmitBitRule := by
  intro x b s
  obtain ⟨hheld, hignored, hfault, hstart⟩ := hostAccess_transmitWrite (b.setWidth 13) 1#4 s
  refine ⟨hheld, hignored, hfault, fun hfree hmod htxen => (hstart hfree hmod htxen).trans ?_⟩
  rw [startTransmission, loadBit_eq, BitVec.ofNat_toNat]
  simp only [setWidth_getLsbD_zero_iff]
  rfl

/-! ### TXSTEP as an instruction -/

theorem txAdvance_of_more {s : State} (hmore : (s.txIdx + 1#4).toNat < s.txNbits.toNat) :
    txAdvance s =
      loadBit (s.txFrame.getLsbD (s.txIdx + 1#4).toNat) { s with txIdx := s.txIdx + 1#4 } := by
  rw [txAdvance_eq, if_pos hmore]

theorem txAdvance_of_last {s : State} (hlast : s.txNbits.toNat ≤ (s.txIdx + 1#4).toNat) :
    txAdvance s = { s with txIdx := s.txIdx + 1#4, txBusy := false } := by
  rw [txAdvance_eq, if_neg (Nat.not_lt.2 hlast)]

/-- Settles O50: the statement's `u` is the state after the toggle and the countdown; the counters of `u` say whether
the bit ends there, and the index whether another bit follows. -/
theorem txStepRule : Obligations.TxStepRule := by
  intro s halves wait u idx x
  have hsplit : (wait = 0#16 ∧ halves = 0#16 ∧ txStep s.quiet = txAdvance u) ∨
      (¬ (wait = 0#16 ∧ halves = 0#16) ∧ txStep s.quiet = u) := by
    obtain ⟨_, rfl, hcases⟩ := txStep_cases s.quiet
    exact hcases
  rw [exec_txstep]
  obtain ⟨hwait, hhalves, hend⟩ | ⟨hwithin, hstay⟩ := hsplit
  · rw [hend]
    refine ⟨fun hwithin => absurd ⟨hwait, hhalves⟩ hwithin, fun _ _ hmore => ?nextBit,
      fun _ _ hlast => ?lastBit⟩
    case nextBit => rw [txAdvance_of_more (s := u) hmore, loadBit_eq]
    case lastBit => rw [txAdvance_of_last (s := u) hlast]
  · rw [hstay]
    exact ⟨fun _ => rfl, fun hwait hhalves => absurd ⟨hwait, hhalves⟩ hwithin,
      fun hwait hhalves => absurd ⟨hwait, hhalves⟩ hwithin⟩

/-! ### The transmit frame as a number -/

/-- XOR is addition modulo 2, so folding it over a list counts. -/
theorem foldl_xor_toNat {α : Type} (p : α → Bool) (l : List α) (acc : Bool) :
    (l.foldl (fun parity k => parity ^^ p k) acc).toNat = (acc.toNat + l.countP p) % 2 := by
  induction l generalizing acc with
  | nil => cases acc <;> rfl
  | cons k l ih =>
    rw [List.foldl_cons, ih, List.countP_cons]
    cases acc <;> cases p k <;> simp <;> omega

/-- The parity bit is the popcount modulo 2. -/
theorem parityBit_toNat (b : Byte) :
    (parityBit b).toNat = ((List.range 8).countP fun k => b.getLsbD k) % 2 := by
  have hfold : parityBit b = (List.range 8).foldl (fun parity k => parity ^^ b.getLsbD k) false := by
    simp [parityBit, List.range_succ]
  rw [hfold, foldl_xor_toNat, Bool.toNat_false, Nat.zero_add]

/-- A field placed above the bits that are taken adds its value at its place, in a word of any width (for the 16-bit
registers: `or_shiftLeft_toNat`). -/
theorem or_placedField_toNat {w : Nat} {low field : BitVec w} {n f : Nat} (k : Nat) (hlow : low.toNat = n)
    (hfield : field.toNat = f) (hbelow : n < 2 ^ k) (hfits : 2 ^ k * f < 2 ^ w) :
    (low ||| (field <<< k)).toNat = n + 2 ^ k * f := by
  have hplaced : (field <<< k).toNat = 2 ^ k * f := by
    rw [BitVec.toNat_shiftLeft, Nat.shiftLeft_eq, hfield, Nat.mul_comm, Nat.mod_eq_of_lt hfits]
  rw [BitVec.toNat_or, hplaced, hlow, Nat.or_comm, ← Nat.two_pow_add_eq_or_of_lt hbelow, Nat.add_comm]

/-- Settles O46: each field of the frame is above the sum of those before it. -/
theorem frameBits : Obligations.FrameBits := by
  intro b
  have hbyte := b.isLt
  have hparity := (parityBit b).toNat_lt
  have hwide : (b.setWidth 13).toNat = b.toNat := BitVec.toNat_setWidth_of_le (by decide)
  have hbit : ((BitVec.ofBool (parityBit b)).setWidth 13).toNat = (parityBit b).toNat := by
    cases parityBit b <;> rfl
  have hone : (1#13).toNat = 1 := rfl
  have hdata := or_placedField_toNat 2 hone hwide (by omega) (by omega)
  have hcheck := or_placedField_toNat 10 hdata hbit (by omega) (by omega)
  have hstop := or_placedField_toNat 11 hcheck hone (by omega) (by omega)
  have hguard := or_placedField_toNat 12 hstop hone (by omega) (by omega)
  rw [← parityBit_toNat]
  exact hguard

end Sys2Proof.Machine

/-! Decoding against encoding: the round trips and the rows of the opcode table (30_encoding.md R82 to R91). -/

namespace Sys2Proof

/-! ### Decode of encode -/

/-- The word of a write of CTRL decodes by DATA[0], which is BEGIN or END (R195). -/
theorem decode_writeWord_ctrl (x : BitVec 15) (b : BitVec 1) :
    decode (writeWord 0#4 (dataOfBit x b)) = if b = 1#1 then .wrCtrlBegin x else .wrCtrlEnd x := by
  obtain ⟨hhigh, hbit⟩ := dataOfBit_fields x b
  have hctrl (d : Half) : decodeWrite 0#4 d =
      if dataBit0 d = 1#1 then .wrCtrlBegin (dataHigh15 d) else .wrCtrlEnd (dataHigh15 d) := rfl
  rw [decode_writeWord, hctrl, hhigh, hbit]

theorem decode_writeWord_txdata (x : BitVec 8) (b : Byte) :
    decode (writeWord 4#4 (dataOfByte x b)) = .wrTxdata x b := by
  obtain ⟨hhigh, hlow⟩ := dataOfByte_fields x b
  have htxdata (d : Half) : decodeWrite 4#4 d = .wrTxdata (dataHighByte d) (dataLowByte d) := rfl
  rw [decode_writeWord, htxdata, hhigh, hlow]

theorem decode_writeWord_txbit (x : BitVec 15) (b : BitVec 1) :
    decode (writeWord 5#4 (dataOfBit x b)) = .wrTxbit x b := by
  obtain ⟨hhigh, hbit⟩ := dataOfBit_fields x b
  have htxbit (d : Half) : decodeWrite 5#4 d = .wrTxbit (dataHigh15 d) (dataBit0 d) := rfl
  rw [decode_writeWord, htxbit, hhigh, hbit]

/-- A word that is not legal decodes as itself, ILLEGAL (R89). -/
theorem decode_of_not_legal {w : StimulusWord} (hw : legalWord w = false) : decode w = .illegal w :=
  (decode_eq_illegal_iff w w).2 ⟨ne_true_of_eq_false hw, rfl⟩

/-- Settles O1: a read or a plain write is found again by its address; the three writes that use part of DATA take
their operands back out of it; an illegal instruction carries a word that is not legal. -/
theorem decodeOfEncode : Obligations.DecodeOfEncode := by
  intro i hwf hword
  cases i
  case tick => exact ⟨_, rfl, by decide⟩
  case edge => exact ⟨_, rfl, by decide⟩
  case wrCtrlBegin x => exact ⟨_, rfl, decode_writeWord_ctrl x 1#1⟩
  case wrCtrlEnd x => exact ⟨_, rfl, decode_writeWord_ctrl x 0#1⟩
  case wrTxdata x b => exact ⟨_, rfl, decode_writeWord_txdata x b⟩
  case wrTxbit x b => exact ⟨_, rfl, decode_writeWord_txbit x b⟩
  case illegal w => exact ⟨w, rfl, decode_of_not_legal (by simpa [Instr.wellFormed] using hwf)⟩
  case sample | txstep | fifoPush | fifoPop => cases hword
  case rdCtrl | rdStatus | rdAvail | rdRxdata | rdTxdata | rdTxbit | rdLowcnt | rdHighcnt | rdTcnt | rdOcr |
      rdLasttick | rdPrevsm | rdRxshift | rdBwo | rdReserved14 | rdReserved15 =>
    exact ⟨_, rfl, decode_readWord _⟩
  case wrStatus d | wrAvail d | wrRxdata d | wrLowcnt d | wrHighcnt d | wrTcnt d | wrOcr d | wrLasttick d |
      wrPrevsm d | wrRxshift d | wrBwo d | wrReserved14 d | wrReserved15 d =>
    exact ⟨_, rfl, decode_writeWord _ d⟩

/-! ### Encode of decode -/

/-- The legal words: TICK, EDGE, the reads and the writes, each of an address (R83 to R86). -/
theorem legalWord_cases {w : StimulusWord} (hw : legalWord w = true) :
    w = 0x000000#24 ∨ w = 0x400000#24 ∨ (∃ a, w = readWord a) ∨ ∃ a d, w = writeWord a d := by
  obtain ⟨hrsv, hevent, hread⟩ := (legalWord_iff_fieldRules w).1 hw
  have hfields := word_of_fields w
  rcases kind_cases (kindField w) with hkind | hkind | hkind | hkind <;> rw [hkind, hrsv] at hfields
  · obtain ⟨haddr, hdata⟩ := hevent (.inl hkind)
    rw [haddr, hdata] at hfields
    exact .inl hfields
  · obtain ⟨haddr, hdata⟩ := hevent (.inr hkind)
    rw [haddr, hdata] at hfields
    exact .inr (.inl hfields)
  · rw [hread hkind] at hfields
    exact .inr (.inr (.inl ⟨addrField w, hfields.trans (by simp [readWord])⟩))
  · exact .inr (.inr (.inr ⟨addrField w, dataField w, hfields.trans (by simp [writeWord])⟩))

theorem encode_decodeRead (a : BitVec 4) :
    encode (decodeRead a) = [readWord a] ∧ (decodeRead a).wellFormed = true ∧
      (decodeRead a).hasWord = true := by
  revert a; decide

theorem encode_decodeWrite_ctrl (d : Half) :
    encode (decodeWrite 0#4 d) = [writeWord 0#4 d] ∧ (decodeWrite 0#4 d).wellFormed = true ∧
      (decodeWrite 0#4 d).hasWord = true := by
  have hctrl : decodeWrite 0#4 d =
      if dataBit0 d = 1#1 then .wrCtrlBegin (dataHigh15 d) else .wrCtrlEnd (dataHigh15 d) := rfl
  have hbits : ∀ b : BitVec 1, b = 1#1 ∨ b = 0#1 := by decide
  have hdata := dataOfBit_eta d
  rw [hctrl]
  rcases hbits (dataBit0 d) with hbegin | hend
  · rw [hbegin] at hdata
    simp [hbegin, encode, hdata, Instr.wellFormed, Instr.hasWord]
  · rw [hend] at hdata
    simp [hend, encode, hdata, Instr.wellFormed, Instr.hasWord]

/-- A write keeps all of DATA, whether as one operand or in two parts. -/
theorem encode_decodeWrite (a : BitVec 4) (d : Half) :
    encode (decodeWrite a d) = [writeWord a d] ∧ (decodeWrite a d).wellFormed = true ∧
      (decodeWrite a d).hasWord = true := by
  by_cases hparts : a = 0#4 ∨ a = 4#4 ∨ a = 5#4
  · rcases hparts with rfl | rfl | rfl
    · exact encode_decodeWrite_ctrl d
    · exact ⟨congrArg (fun x => [writeWord 4#4 x]) (dataOfByte_eta d), rfl, rfl⟩
    · exact ⟨congrArg (fun x => [writeWord 5#4 x]) (dataOfBit_eta d), rfl, rfl⟩
  · obtain ⟨⟨n, hn⟩⟩ := a
    interval_cases n
    all_goals first
      | exact ⟨rfl, rfl, rfl⟩
      | exact absurd (by simp) hparts

/-- Settles O2: a word that is not legal is kept whole; a legal one is TICK, EDGE, a read or a write, and each is
encoded as itself. -/
theorem encodeOfDecode : Obligations.EncodeOfDecode := by
  intro w
  rcases hw : legalWord w
  · rw [decode_of_not_legal hw]
    exact ⟨rfl, by simp [Instr.wellFormed, hw], rfl⟩
  · rcases legalWord_cases hw with rfl | rfl | ⟨a, rfl⟩ | ⟨a, d, rfl⟩
    · decide
    · decide
    · rw [decode_readWord]
      exact encode_decodeRead a
    · rw [decode_writeWord]
      exact encode_decodeWrite a d

/-! ### The rows of the opcode table -/

/-- Any two rows differ in a bit that both masks select, so no word shows both patterns. -/
theorem opcodeRows_disjoint :
    opcodeRows.Pairwise fun r r' => r.pattern &&& r'.mask ≠ r'.pattern &&& r.mask := by
  decide

theorem covers_iff (r : OpcodeRow) (w : StimulusWord) : r.covers w = true ↔ w &&& r.mask = r.pattern := by
  simp [OpcodeRow.covers]

/-- Two rows that a word shows agree on the bits that both select. -/
theorem patterns_agree {r r' : OpcodeRow} {w : StimulusWord} (h : r.covers w = true)
    (h' : r'.covers w = true) : r.pattern &&& r'.mask = r'.pattern &&& r.mask := by
  rw [covers_iff] at h h'
  rw [← h, ← h', BitVec.and_assoc, BitVec.and_assoc, BitVec.and_comm r.mask]

theorem row_unique {r r' : OpcodeRow} {w : StimulusWord} (hr : r ∈ opcodeRows) (hr' : r' ∈ opcodeRows)
    (h : r.covers w = true) (h' : r'.covers w = true) : r' = r := by
  by_contra hne
  have hsymm : Std.Symm fun r r' : OpcodeRow => r.pattern &&& r'.mask ≠ r'.pattern &&& r.mask :=
    ⟨fun _ _ hdiffer heq => hdiffer heq.symm⟩
  exact opcodeRows_disjoint.forall hr' hr hne (patterns_agree h' h)

theorem event_row_mem :
    (⟨0x000000#24, 0xFFFFFF#24⟩ : OpcodeRow) ∈ opcodeRows ∧
    (⟨0x400000#24, 0xFFFFFF#24⟩ : OpcodeRow) ∈ opcodeRows := by
  decide

theorem read_row_mem : ∀ a : BitVec 4, (⟨readWord a, 0xFFFFFF#24⟩ : OpcodeRow) ∈ opcodeRows := by
  decide

theorem fixed_row_covers {w : StimulusWord} (hrow : ⟨w, 0xFFFFFF#24⟩ ∈ opcodeRows) :
    ∃ r ∈ opcodeRows, r.covers w = true :=
  ⟨_, hrow, (covers_iff _ _).2 BitVec.and_allOnes⟩

/-- What the masks of the WR rows leave of a word: KIND, RSV and ADDR, and DATA[0] in the two rows of CTRL. -/
theorem writeWord_and_mask (a : BitVec 4) (d : Half) :
    writeWord a d &&& 0xFF0000#24 = writeWord a 0#16 ∧
    writeWord a d &&& 0xFF0001#24 = writeWord a ((dataBit0 d).setWidth 16) := by
  constructor <;> ext i hi <;> simp only [writeWord, dataBit0] <;> interval_cases i <;> simp

theorem write_row_mem : ∀ a : BitVec 4, a ≠ 0#4 → (⟨writeWord a 0#16, 0xFF0000#24⟩ : OpcodeRow) ∈ opcodeRows := by
  decide

theorem ctrl_row_mem : ∀ b : BitVec 1, (⟨writeWord 0#4 (b.setWidth 16), 0xFF0001#24⟩ : OpcodeRow) ∈ opcodeRows := by
  decide

theorem write_row_covers (a : BitVec 4) (d : Half) : ∃ r ∈ opcodeRows, r.covers (writeWord a d) = true := by
  obtain ⟨haddr, hbit⟩ := writeWord_and_mask a d
  by_cases hctrl : a = 0#4
  · subst hctrl
    exact ⟨_, ctrl_row_mem (dataBit0 d), (covers_iff _ _).2 hbit⟩
  · exact ⟨_, write_row_mem a hctrl, (covers_iff _ _).2 haddr⟩

theorem legalWord_of_environment_or_read_row :
    ∀ r ∈ environmentRows ++ readRows, r.mask = 0xFFFFFF#24 ∧ legalWord r.pattern = true := by
  decide

theorem write_row_bits :
    ∀ r ∈ writeRows, r.mask &&& 0xF00000#24 = 0xF00000#24 ∧ r.pattern &&& 0xF00000#24 = 0xC00000#24 := by
  decide

/-- A row's pattern is shown by legal words only: it fixes the whole word, or KIND 0b11 with RSV 0. -/
theorem legalWord_of_covers {r : OpcodeRow} {w : StimulusWord} (hr : r ∈ opcodeRows) (h : r.covers w = true) :
    legalWord w = true := by
  rw [covers_iff] at h
  rcases List.mem_append.1 hr with hr | hr
  · obtain ⟨hmask, hlegal⟩ := legalWord_of_environment_or_read_row r hr
    have hall : w &&& 0xFFFFFF#24 = w := BitVec.and_allOnes
    rwa [← h, hmask, hall] at hlegal
  · obtain ⟨hmask, hpattern⟩ := write_row_bits r hr
    have hbits : w &&& 0xF00000#24 = 0xC00000#24 := by
      rw [← hmask, ← BitVec.and_assoc, h, hpattern]
    have hsub (m : StimulusWord) (hm : 0xF00000#24 &&& m = m) : w &&& m = 0xC00000#24 &&& m := by
      rw [← hbits, BitVec.and_assoc, hm]
    have hrsv := hsub 0x300000#24 (by decide)
    have hkind := hsub 0xC00000#24 (by decide)
    simp [legalWord, hrsv, hkind]

/-- Settles O4: the rows are pairwise disjoint; each form of a legal word has a row, and a row's words are legal. -/
theorem opcodeRowsPartitionLegalWords : Obligations.OpcodeRowsPartitionLegalWords := by
  refine ⟨rfl, fun w => ⟨fun hlegal => ?legal, fun hillegal r hr => ?illegal⟩⟩
  case legal =>
    have hrow : ∃ r ∈ opcodeRows, r.covers w = true := by
      rcases legalWord_cases hlegal with rfl | rfl | ⟨a, rfl⟩ | ⟨a, d, rfl⟩
      · exact fixed_row_covers event_row_mem.1
      · exact fixed_row_covers event_row_mem.2
      · exact fixed_row_covers (read_row_mem a)
      · exact write_row_covers a d
    obtain ⟨r, hr, hcovers⟩ := hrow
    exact ⟨r, hr, hcovers, fun r' hr' hcovers' => row_unique hr hr' hcovers hcovers'⟩
  case illegal =>
    by_contra hcovers
    rw [Bool.not_eq_false] at hcovers
    rw [legalWord_of_covers hr hcovers] at hillegal
    cases hillegal

end Sys2Proof

/-! One step: which instruction it runs, what is held, what a fault ends (00_scope.md R12, 43_fifo_host.md R187,
60_exceptions.md R238, R239). -/

namespace Sys2Proof.Machine

/-! ### Host accesses -/

theorem hostRead_eq_hostAccess (s : State) (v : State → Half) :
    hostRead s v = hostAccess s fun t => t.respond (.value (v t)) := rfl

/-- Every RD and WR passes R187 first. -/
theorem exec_eq_hostAccess {i : Instr} (hhost : isHostAccess i = true) :
    ∃ act, ∀ s, exec i s = hostAccess s act := by
  cases i
  case tick | edge | illegal | sample | txstep | fifoPush | fifoPop => cases hhost
  case rdRxdata => exact ⟨fun t => (fifoPop t).respond (.value (rxdataImage (popResult t))), fun _ => rfl⟩
  case rdCtrl | rdStatus | rdAvail | rdLowcnt | rdHighcnt | rdPrevsm | rdRxshift =>
    exact ⟨_, fun s => hostRead_eq_hostAccess s _⟩
  case rdTcnt => exact ⟨_, fun s => hostRead_eq_hostAccess s fun t => timerImage t.tcnt⟩
  case rdOcr => exact ⟨_, fun s => hostRead_eq_hostAccess s fun t => timerImage t.ocr⟩
  case rdLasttick => exact ⟨_, fun s => hostRead_eq_hostAccess s fun t => timerImage t.lastTick⟩
  case rdBwo => exact ⟨_, fun s => hostRead_eq_hostAccess s fun t => timerImage t.bwo⟩
  case rdTxdata | rdTxbit | rdReserved14 | rdReserved15 =>
    exact ⟨_, fun s => hostRead_eq_hostAccess s fun _ => 0#16⟩
  all_goals exact ⟨_, fun _ => rfl⟩

/-- Settles O41: every host access is the one operation that R187 holds. -/
theorem hostAccessHeldWhileBusy : Obligations.HostAccessHeldWhileBusy := by
  intro i s hhost hbusy
  obtain ⟨act, hact⟩ := exec_eq_hostAccess hhost
  rw [hact, hostAccess_busy hbusy]

theorem hostAccess_total (s : State) (act : State → State) : ∃ t, hostAccess s act = .next t := by
  rcases hbusy : s.txBusy
  · exact ⟨_, hostAccess_free hbusy act⟩
  · exact ⟨_, hostAccess_busy hbusy act⟩

/-- Settles O19: a host access answers whether it is held or not, and every other instruction has one next state. -/
theorem everyInstructionHasANextState : Obligations.EveryInstructionHasANextState := by
  intro i s
  rcases hhost : isHostAccess i
  · cases i
    case tick | edge | illegal | sample | txstep | fifoPush | fifoPop => exact ⟨_, rfl⟩
    all_goals cases hhost
  · obtain ⟨act, hact⟩ := exec_eq_hostAccess hhost
    rw [hact]
    exact hostAccess_total s act

theorem hostAccess_with_out (s : State) (o : Output) (act : State → State) :
    hostAccess { s with out := o } act = hostAccess s act := rfl

/-- Settles O59: a host access and every other meaning start from the state without its observation. -/
theorem observationsAreNeverRead : Obligations.ObservationsAreNeverRead := by
  intro i s o
  rcases hhost : isHostAccess i
  · cases i
    case tick | edge | illegal | sample | txstep | fifoPush | fifoPop => rfl
    all_goals cases hhost
  · obtain ⟨act, hact⟩ := exec_eq_hostAccess hhost
    rw [hact, hact, hostAccess_with_out]

/-- Settles O6: the meanings of the four writes do not take the ignored bits. -/
theorem ignoredDataBitsHaveNoEffect : Obligations.IgnoredDataBitsHaveNoEffect :=
  ⟨fun _ _ _ => rfl, fun _ _ _ => rfl, fun _ _ _ _ => rfl, fun _ _ _ _ => rfl⟩

/-- Settles O49: the second case of each of the two TX writes. -/
theorem transmitIgnoredWithoutModulator : Obligations.TransmitIgnoredWithoutModulator := by
  intro s hfree hmod
  refine ⟨fun x b => ?txdata, fun x b => ?txbit⟩
  case txdata =>
    obtain ⟨-, hignored, -⟩ := writeByteRule x b s
    exact hignored hfree hmod
  case txbit =>
    obtain ⟨-, hignored, -⟩ := emitBitRule x b s
    exact hignored hfree hmod

/-! ### The next stimulus -/

/-- A step on a pending word runs it, with the list that R187 leaves. -/
theorem step_of_word {s : State} {w : StimulusWord} {rest : List Stimulus} (hrun : s.faulted = none)
    (hpending : s.stimuli = .word w :: rest) :
    step s = exec (decode w)
      { s with
        stimuli := if s.txBusy && isHostAccess (decode w) then deferHost (.word w :: rest) else rest } := by
  have hfetch : fetch s = .run (decode w)
      { s with
        stimuli := if s.txBusy && isHostAccess (decode w) then deferHost (.word w :: rest) else rest } := by
    simp only [fetch, hrun, hpending]
  simp only [step, hfetch]

theorem step_of_nothing {s : State} (hrun : s.faulted = none) (hnone : s.stimuli = []) :
    step s = .refused .noStimulus := by
  have hfetch : fetch s = .nothing := by simp only [fetch, hrun, hnone]
  simp only [step, hfetch]

theorem step_of_faulted {s : State} {c : Fault} (hfault : s.faulted = some c) : step s = .fault c := by
  have hfetch : fetch s = .faulted c := by simp only [fetch, hfault]
  simp only [step, hfetch]

/-- Settles O15: a word that is not held is taken off the list. -/
theorem stepRunsDecodedInstruction : Obligations.StepRunsDecodedInstruction := by
  intro s w rest hrun hpending hfree
  have hnotHeld : ¬ (s.txBusy && isHostAccess (decode w)) = true := by rwa [Bool.and_eq_true]
  rw [step_of_word hrun hpending, if_neg hnotHeld]

/-- The bits of a 24-bit word, presented as such, are the word itself. -/
theorem stimuli_withFetchWord (s : State) (w : StimulusWord) :
    (s.withFetchWord 24 w.toNat).stimuli = .word w :: s.stimuli := by
  have hword : BitVec.ofNat 24 (w.toNat % 2 ^ 24) = w := by
    rw [Nat.mod_eq_of_lt w.isLt, BitVec.ofNat_toNat, BitVec.setWidth_eq]
  rw [← hword]
  simp only [State.withFetchWord, presentWord, hword]

/-- Settles O16: the presented word is the first on the list, and taking it off gives the original state. -/
theorem presentedWordRunsNext : Obligations.PresentedWordRunsNext := by
  intro s w hrun hfree
  exact stepRunsDecodedInstruction (s.withFetchWord 24 w.toNat) w s.stimuli hrun (stimuli_withFetchWord s w) hfree

/-- Settles O18: a pending reset or word has a next state, since every instruction has one. -/
theorem stepNeedsAStimulus : Obligations.StepNeedsAStimulus := by
  intro s hrun
  refine ⟨fun hsome => ?pending, step_of_nothing hrun⟩
  case pending =>
    rcases hpending : s.stimuli with _ | ⟨w | draw, rest⟩
    · exact absurd hpending hsome
    · rw [step_of_word hrun hpending]
      exact everyInstructionHasANextState _ _
    · exact ⟨_, step_eq_hardReset hrun hpending⟩

/-! ### Held accesses -/

theorem deferHost_of_all_host {l : List Stimulus} (hhost : ∀ x ∈ l, x.isHost = true) : deferHost l = l := by
  have hdrop : l.dropWhile Stimulus.isHost = [] := List.dropWhile_eq_nil_iff.2 hhost
  simp only [deferHost, hdrop]

/-- The first stimulus of another agent goes ahead of the host accesses before it. -/
theorem deferHost_of_other {l rest : List Stimulus} {e : Stimulus} (hhost : ∀ x ∈ l, x.isHost = true)
    (hother : e.isHost = false) : deferHost (l ++ e :: rest) = e :: (l ++ rest) := by
  have hdrop : (l ++ e :: rest).dropWhile Stimulus.isHost = e :: rest := by
    rw [List.dropWhile_append_of_pos hhost, List.dropWhile_cons_of_neg (ne_true_of_eq_false hother)]
  have htake : (l ++ e :: rest).takeWhile Stimulus.isHost = l := by
    rw [List.takeWhile_append_of_pos hhost, List.takeWhile_cons_of_neg (ne_true_of_eq_false hother),
      List.append_nil]
  simp only [deferHost, hdrop, htake]

/-- A step on a host access during a transmission answers HELD; the list is all that changes. -/
theorem step_of_held {s : State} {h : Stimulus} {rest : List Stimulus} (hrun : s.faulted = none)
    (hbusy : s.txBusy = true) (hhost : h.isHost = true) (hpending : s.stimuli = h :: rest) :
    step s = .next { s with stimuli := deferHost (h :: rest), out := ⟨[], .held⟩ } := by
  cases h with
  | word w =>
    have hheld : (s.txBusy && isHostAccess (decode w)) = true := by
      rw [Bool.and_eq_true]
      exact ⟨hbusy, hhost⟩
    rw [step_of_word hrun hpending, if_pos hheld]
    exact hostAccessHeldWhileBusy _ _ hhost hbusy
  | reset draw => cases hhost

/-- Settles O17: the two shapes of the list are the two cases of the retry. -/
theorem heldAccessIsKept : Obligations.HeldAccessIsKept := by
  intro s h hosts hrun hbusy hhosts
  have hhost : h.isHost = true := hhosts h List.mem_cons_self
  refine ⟨fun hpending => ?alone, fun e rest hother hpending => ?behind⟩
  case alone =>
    rw [step_of_held hrun hbusy hhost hpending, deferHost_of_all_host hhosts, ← hpending]
  case behind =>
    have hdefer : deferHost (h :: (hosts ++ e :: rest)) = e :: (h :: hosts ++ rest) :=
      deferHost_of_other hhosts hother
    rw [step_of_held (rest := hosts ++ e :: rest) hrun hbusy hhost hpending, hdefer]

/-! ### Faults -/

/-- Settles O20: raising leaves the registers to the state it starts from, the TX writes before a BEGIN are the third
case of their rules, and a faulted run fetches nothing more. -/
theorem faultsEndTheRun : Obligations.FaultsEndTheRun := by
  refine ⟨fun w s => rfl, fun x b s => ?txdata, fun x b s => ?txbit, fun s c => step_of_faulted⟩
  case txdata =>
    obtain ⟨-, -, hfault, -⟩ := writeByteRule x b s
    exact hfault
  case txbit =>
    obtain ⟨-, -, hfault, -⟩ := emitBitRule x b s
    exact hfault

/-- Settles O21: an illegal word decodes as itself and is no host access, so no transmission holds it; the words of
the reserved addresses are those of their reads and writes. -/
theorem illegalWordRaisesItsFault : Obligations.IllegalWordRaisesItsFault := by
  refine ⟨fun s w rest hrun hpending hillegal => ?raises, by decide, by decide, fun d => ⟨?_, ?_⟩⟩
  case raises =>
    have hdecode : decode w = .illegal w := decode_of_not_legal hillegal
    have hnotHost : isHostAccess (decode w) = false := by rw [hdecode]; rfl
    have hnotHeld : ¬ (s.txBusy = true ∧ isHostAccess (decode w) = true) := by simp [hnotHost]
    rw [stepRunsDecodedInstruction s w rest hrun hpending hnotHeld, hdecode]
    rfl
  · exact decode_writeWord 14#4 d
  · exact decode_writeWord 15#4 d

end Sys2Proof.Machine

/-! Which instruction writes which register (10_state.md R20 to R48). -/

namespace Sys2Proof.Machine

/-- A tick leaves OVF or sets it, on the wrap (R102). -/
theorem overflowAfterTick_cases (s : State) : overflowAfterTick s = s.ovf ∨ overflowAfterTick s = true := by
  unfold overflowAfterTick
  cases nextCount s == 0
  · exact .inl (Bool.or_false _)
  · exact .inr (Bool.or_true _)

/-- SAMPLE leaves SAMPLE_EN or clears it. -/
theorem sample_sampleEn_cases (s : State) : (sample s).sampleEn = s.sampleEn ∨ (sample s).sampleEn = false := by
  rw [sample_sampleEn]
  split
  · exact .inr rfl
  · exact .inl rfl

/-- Settles O57: each case of `exec_cases` changes only the registers its frame lemma leaves open; of those, a
disjunction "as it was, or the new value" says what is written. -/
theorem registerWriters : Obligations.RegisterWriters := by
  intro i s t h
  dsimp only
  rcases exec_cases h with ⟨rfl, rfl⟩ | ⟨rfl, rfl⟩ | ⟨rfl, rfl⟩ | ⟨rfl, rfl⟩ | ⟨v, rfl, rfl⟩ | ⟨rfl, rfl⟩ |
    ⟨w, rfl, rfl⟩ | ⟨-, r, rfl⟩ | ⟨-, ⟨rfl, rfl⟩ | ⟨x, rfl, rfl⟩ | ⟨x, rfl, rfl⟩ | ⟨x, b, rfl, rfl⟩ |
    ⟨x, b, rfl, rfl⟩⟩
  -- TICK
  · obtain ⟨hcfg, htcnt, hovf, hen, htxen, hlast, hprev, hbwo, hhead, hfaulted, hstimuli, hresets, -⟩ :=
      tick_frame s.quiet
    obtain ⟨hsampleEn, hlow, hhigh, hbusy, hframe, hnbits⟩ := tick_writes s.quiet
    simpa [hcfg, htcnt, hovf, hen, htxen, hlast, hprev, hbwo, hhead, hfaulted, hstimuli, hresets, hframe, hnbits]
      using ⟨(overflowAfterTick_cases s.quiet).resolve_left, hsampleEn.resolve_left, hlow.resolve_left,
        hhigh.resolve_left, hbusy.resolve_left⟩
  -- EDGE
  · obtain ⟨hcfg, htcnt, hen, htxen, hbuf, hhead, htail, hfaulted, hstimuli, hresets, -,
      -, hbusy, hframe, hnbits, hidx, hhalves, hwait, hhalf, htxout⟩ := edge_frame s.quiet
    obtain ⟨hovf, hsampleEn, hlow, hhigh, hrxShift⟩ := edge_writes s.quiet
    simpa [hcfg, htcnt, hen, htxen, hbuf, hhead, htail, hfaulted, hstimuli, hresets, ← hbusy, ← hframe, ← hnbits,
      ← hidx, ← hhalves, ← hwait, ← hhalf, ← htxout]
      using ⟨hovf.resolve_left, hsampleEn.resolve_left, hlow.resolve_left, hhigh.resolve_left,
        hrxShift.resolve_left⟩
  -- SAMPLE
  · obtain ⟨hcfg, htcnt, hovf, hen, htxen, hlast, hprev, hbwo, hhead, hfaulted, hstimuli, hresets, -⟩ :=
      sample_frame s.quiet
    obtain ⟨hlow, hhigh⟩ := sample_counters s.quiet
    obtain ⟨-, hbusy, hframe, hnbits, hidx, hhalves, hwait, hhalf, htxout⟩ := sample_sameTransmitter s.quiet
    simpa [hcfg, htcnt, hovf, hen, htxen, hlast, hprev, hbwo, hhead, hfaulted, hstimuli, hresets, ← hbusy,
      ← hframe, ← hnbits, ← hidx, ← hhalves, ← hwait, ← hhalf, ← htxout]
      using ⟨(sample_sampleEn_cases s.quiet).resolve_left, hlow.resolve_left, hhigh.resolve_left⟩
  -- TXSTEP
  · obtain ⟨⟨hcfg, htcnt, hovf, hocr, hsampleEn, hen, hlast, hprev, hlow, hhigh, hbwo, -, hrxShift, hbuf, hhead,
      htail⟩, htxen, hfaulted, hstimuli, hresets, -, hframe, hnbits⟩ := txStep_frame s.quiet
    simpa [← hcfg, ← htcnt, ← hovf, ← hocr, ← hsampleEn, ← hen, ← hlast, ← hprev, ← hlow, ← hhigh, ← hbwo,
      ← hrxShift, ← hbuf, ← hhead, ← htail, htxen, hfaulted, hstimuli, hresets, hframe, hnbits]
      using (txStep_txBusy s.quiet).resolve_left
  -- FifoPush, FifoPop, an illegal word, and the accesses that are held or have no effect
  · rw [fifoPush_eq]
    split <;> simp
  · rw [fifoPop_eq]
    split <;> simp
  · simp
  · simp
  -- RD RXDATA, BEGIN, END
  · rw [fifoPop_eq]
    split <;> simp
  · simp
  · simp
  -- WR TXDATA and WR TXBIT: ignored, a fault, or the start of a transmission
  · rcases transmitWrite_cases (frameOf b) 13#4 s.quiet with ⟨-, hw⟩ | ⟨-, htxen, hw⟩ | ⟨-, -, hw⟩ <;> rw [hw]
    · simp
    · simpa using fun _ => htxen
    · simp
  · rcases transmitWrite_cases (b.setWidth 13) 1#4 s.quiet with ⟨-, hw⟩ | ⟨-, htxen, hw⟩ | ⟨-, -, hw⟩ <;> rw [hw]
    · simp
    · simpa using fun _ => htxen
    · simp

/-- Settles O56: a hardware reset keeps the configuration, and so does every instruction. -/
theorem configurationNeverChanges : Obligations.ConfigurationNeverChanges := by
  intro s t hstep
  obtain ⟨-, ⟨draw, rest, -, rfl⟩ | ⟨w, rest, -, hexec⟩⟩ := step_cases hstep
  · rfl
  · obtain ⟨hcfg, -⟩ := registerWriters _ _ _ hexec
    exact hcfg

/-! ### FRAME_STATE -/

/-- The state that the transition of SAMPLE acts on: rescheduled (R151), with the decision as its event (R152). -/
def rescheduled (s : State) : State :=
  State.emit (.bitSample s.frameState (decideBit s)) { s with ocr := nextTarget s }

theorem sample_eq_frameTransition (s : State) : sample s = frameTransition (decideBit s) (rescheduled s) := rfl

theorem rescheduled_frameState (s : State) : (rescheduled s).frameState = s.frameState := rfl

/-- The next frame state of SAMPLE (R164), without what it does to the other registers. -/
theorem sample_frameState (s : State) :
    (sample s).frameState =
      match s.frameState with
      | .idle => .idle
      | .start => if decideBit s then .idle else .data 0
      | .data i => if i = 7 then .parity else .data (i + 1)
      | .parity => .stop
      | .stop => .idle := by
  rw [sample_eq_frameTransition]
  cases hrow : s.frameState with
  | idle => rw [frameTransition_of_idle (s := rescheduled s) _ hrow]; exact hrow
  | start => rw [frameTransition_of_start (s := rescheduled s) _ hrow]; split <;> rfl
  | data i => rw [frameTransition_of_data (s := rescheduled s) _ hrow]
  | parity => rw [frameTransition_of_parity (s := rescheduled s) _ hrow]
  | stop => rw [frameTransition_of_stop (s := rescheduled s) _ hrow]; split <;> rfl

theorem sample_frameState_ne_start (s : State) : (sample s).frameState ≠ .start := by
  rw [sample_frameState]
  cases s.frameState with
  | idle | parity | stop => exact nofun
  | start | data => dsimp only; split <;> exact nofun

/-- TICK enters another frame state only through its sample. -/
theorem tick_frameState_cases (s : State) :
    (tick s).frameState = s.frameState ∨ (tick s).frameState = (sample (countTick s)).frameState := by
  obtain ⟨r, hr, -, ht⟩ := tick_cases s
  have hkept : (tick s).frameState = r.frameState := by
    rcases ht with ⟨-, ht⟩ | ⟨-, ht⟩ <;> rw [ht]
    obtain ⟨⟨-, -, -, -, -, -, -, -, -, -, -, hframe, -⟩, -⟩ := txStep_frame r
    exact hframe.symm
  rcases hr with ⟨rfl, -⟩ | ⟨rfl, -⟩
  · exact .inl hkept
  · exact .inr hkept

theorem startGate_frameState_cases (s : State) :
    (startGate s).frameState = s.frameState ∨ (startGate s).frameState = .start ∧ s.frameState = .idle := by
  rw [startGate_eq]
  split
  case isTrue hopen => exact .inr ⟨rfl, hopen.1⟩
  case isFalse => exact .inl rfl

theorem accumulate_frameState (raw : Nat) (s : State) : (accumulate raw s).frameState = s.frameState := by
  rw [accumulate_eq]

/-- EDGE enters Start, from Idle and with EN = 1, or no other frame state. -/
theorem edge_frameState_cases (s : State) :
    (edge s).frameState = s.frameState ∨
      (edge s).frameState = .start ∧ s.frameState = .idle ∧ s.en = true := by
  rcases edge_cases s with ⟨-, h⟩ | ⟨-, -, h⟩ | ⟨hen, -, h⟩ <;> rw [h]
  · exact .inl rfl
  · exact .inl rfl
  · have hgate := startGate_frameState_cases (accumulate (rawInterval s) (acceptCrossing (rawInterval s) s))
    rw [accumulate_frameState, acceptCrossing_frameState] at hgate
    exact hgate.imp_right fun ⟨hstart, hidle⟩ => ⟨hstart, hidle, hen⟩

theorem transmitWrite_frameState (f : BitVec 13) (n : BitVec 4) (s : State) :
    (transmitWrite f n s).frameState = s.frameState := by
  rcases transmitWrite_cases f n s with ⟨-, h⟩ | ⟨-, -, h⟩ | ⟨-, -, h⟩ <;> rw [h]
  · rfl
  · rfl

theorem fifoPop_frameState (s : State) : (fifoPop s).frameState = s.frameState := by
  rw [fifoPop_eq]
  split <;> rfl

theorem fifoPush_frameState (v : Byte) (s : State) : (fifoPush v s).frameState = s.frameState := by
  rw [fifoPush_eq]
  split <;> rfl

/-- Which instruction enters which frame state. -/
theorem exec_frameState_cases {i : Instr} {s t : State} (h : exec i s = .next t) :
    t.frameState = s.frameState ∨
    (t.frameState = .start ∧ i = .edge ∧ s.frameState = .idle ∧ s.en = true) ∨
    (t.frameState ≠ .start ∧ (i = .tick ∨ i = .sample)) ∨
    (t.frameState = .idle ∧ ∃ x, i = .wrCtrlBegin x) := by
  rcases exec_cases h with ⟨rfl, rfl⟩ | ⟨rfl, rfl⟩ | ⟨rfl, rfl⟩ | ⟨rfl, rfl⟩ | ⟨v, rfl, rfl⟩ | ⟨rfl, rfl⟩ |
    ⟨w, rfl, rfl⟩ | ⟨-, r, rfl⟩ | ⟨-, ⟨rfl, rfl⟩ | ⟨x, rfl, rfl⟩ | ⟨x, rfl, rfl⟩ | ⟨x, b, rfl, rfl⟩ |
    ⟨x, b, rfl, rfl⟩⟩
  · rcases tick_frameState_cases s.quiet with hkept | hsampled
    · exact .inl hkept
    · exact .inr (.inr (.inl ⟨hsampled ▸ sample_frameState_ne_start _, .inl rfl⟩))
  · rcases edge_frameState_cases s.quiet with hkept | ⟨hstart, hidle, hen⟩
    · exact .inl hkept
    · exact .inr (.inl ⟨hstart, rfl, hidle, hen⟩)
  · exact .inr (.inr (.inl ⟨sample_frameState_ne_start _, .inr rfl⟩))
  · obtain ⟨⟨-, -, -, -, -, -, -, -, -, -, -, hframe, -⟩, -⟩ := txStep_frame s.quiet
    exact .inl hframe.symm
  · exact .inl (fifoPush_frameState v s.quiet)
  · exact .inl (fifoPop_frameState s.quiet)
  · exact .inl rfl
  · exact .inl rfl
  · exact .inl (fifoPop_frameState s.quiet)
  · exact .inr (.inr (.inr ⟨rfl, x, rfl⟩))
  · exact .inl rfl
  · exact .inl (transmitWrite_frameState _ _ s.quiet)
  · exact .inl (transmitWrite_frameState _ _ s.quiet)

/-- Settles O31: of the three writers, EDGE enters Start alone, a sample never Start, and BEGIN Idle alone. -/
theorem frameStateWriters : Obligations.FrameStateWriters := by
  intro i s t h hne
  rcases exec_frameState_cases h with hkept | ⟨hstart, hedge⟩ | ⟨hnotStart, hsamples⟩ | ⟨hidle, hbegin⟩
  · exact absurd hkept hne
  · exact ⟨fun _ => hedge, fun hnot => absurd hstart hnot, fun hidle => by simp [hstart] at hidle⟩
  · exact ⟨fun hstart => absurd hstart hnotStart, fun _ _ => hsamples, fun _ => hsamples.imp_right .inl⟩
  · exact ⟨fun hstart => by simp [hidle] at hstart, fun _ hnot => absurd hidle hnot, fun _ => .inr (.inr hbegin)⟩

/-! ### An ended receiver -/

/-- TXSTEP's event comes from the start of a half-cycle, and it is the only one. -/
theorem txStep_events (s : State) :
    (txStep s).out.events = s.out.events ++ if s.txWait = 0#16 then [.txToggle (!s.txout)] else [] := by
  obtain ⟨u, rfl, ⟨-, -, h⟩ | ⟨-, h⟩⟩ := txStep_cases s <;> rw [h]
  exact congrArg Output.events (txAdvance_out _)

/-- Settles O45: EDGE tests EN first; without SAMPLE_EN no compare matches, so a TICK is the count and TXSTEP, which
leaves the receiver. -/
theorem noReactionWhileEnded : Obligations.NoReactionWhileEnded := by
  intro s hended hsampleEn
  refine ⟨exec_edge_of_ended hended, tick s.quiet, exec_tick s, ?_⟩
  have hmiss : ¬ compareMatch (countTick s.quiet) = true := by
    rw [compareMatch_iff]
    simp [hsampleEn]
  rw [tick_of_not_match hmiss]
  rcases hbusy : s.quiet.txBusy
  · exact ⟨.refl _, rfl, rfl, fun e he => absurd he List.not_mem_nil⟩
  · obtain ⟨⟨hcfg, htcnt, hovf, hrest⟩, htxen, -⟩ := txStep_frame (countTick s.quiet)
    refine ⟨⟨hcfg, rfl, rfl, hrest⟩, htxen, htcnt.symm, fun e he => ?_⟩
    replace he : e ∈ (txStep (countTick s.quiet)).out.events := he
    rw [txStep_events] at he
    split at he
    · exact ⟨_, List.mem_singleton.1 he⟩
    · exact absurd he List.not_mem_nil

/-! ### Receiver and transmitter -/

theorem SameReceiver.symm {s t : State} (h : SameReceiver s t) : SameReceiver t s := by
  simp only [SameReceiver] at h ⊢
  simp only [h, and_self]

theorem SameReceiver.trans {s t u : State} (h : SameReceiver s t) (h' : SameReceiver t u) : SameReceiver s u := by
  simp only [SameReceiver] at h h' ⊢
  simp only [h, h', and_self]

theorem SameTransmitter.symm {s t : State} (h : SameTransmitter s t) : SameTransmitter t s := by
  simp only [SameTransmitter] at h ⊢
  simp only [h, and_self]

theorem SameTransmitter.trans {s t u : State} (h : SameTransmitter s t) (h' : SameTransmitter t u) :
    SameTransmitter s u := by
  simp only [SameTransmitter] at h h' ⊢
  simp only [h, h', and_self]

/-- The rows of the transition table read and write the receiver alone. -/
theorem SameReceiver.frameTransition {s t : State} (bit : Bool) (h : SameReceiver s t) :
    SameReceiver (frameTransition bit s) (frameTransition bit t) := by
  have hrow : s.frameState = t.frameState := by simp only [h]
  have hfull : (s.tail.toNat + 1) % s.cfg.depth = s.head.toNat ↔
      (t.tail.toNat + 1) % t.cfg.depth = t.head.toNat := by simp only [h]
  cases hrow' : t.frameState with
  | idle =>
    rw [frameTransition_of_idle bit (hrow.trans hrow'), frameTransition_of_idle bit hrow']
    exact h
  | start =>
    rw [frameTransition_of_start bit (hrow.trans hrow'), frameTransition_of_start bit hrow']
    cases bit <;> simp [SameReceiver, h]
  | data i =>
    rw [frameTransition_of_data bit (hrow.trans hrow'), frameTransition_of_data bit hrow']
    simp [SameReceiver, h]
  | parity =>
    rw [frameTransition_of_parity bit (hrow.trans hrow'), frameTransition_of_parity bit hrow']
    simp [SameReceiver, h]
  | stop =>
    rw [frameTransition_of_stop bit (hrow.trans hrow'), frameTransition_of_stop bit hrow']
    simp only [hfull]
    split <;> simp [SameReceiver, h]

theorem SameReceiver.sample {s t : State} (h : SameReceiver s t) :
    SameReceiver (Machine.sample s) (Machine.sample t) := by
  have hbit : decideBit s = decideBit t := by simp only [decideBit, h]
  have hrescheduled : SameReceiver (rescheduled s) (rescheduled t) := by
    simp [SameReceiver, rescheduled, nextTarget, h]
  rw [sample_eq_frameTransition, sample_eq_frameTransition, hbit]
  exact hrescheduled.frameTransition _

theorem SameReceiver.countTick {s t : State} (h : SameReceiver s t) :
    SameReceiver (Machine.countTick s) (Machine.countTick t) := by
  simp [SameReceiver, overflowAfterTick, nextCount, h]

/-- The part of TICK that acts on the receiver: the count, and SAMPLE at a match. -/
def receiverTick (s : State) : State :=
  if compareMatch (Machine.countTick s) then Machine.sample (Machine.countTick s) else Machine.countTick s

theorem SameReceiver.receiverTick {s t : State} (h : SameReceiver s t) :
    SameReceiver (Machine.receiverTick s) (Machine.receiverTick t) := by
  have hcount := h.countTick
  have hmatch : compareMatch (Machine.countTick s) = compareMatch (Machine.countTick t) := by
    simp only [compareMatch, hcount]
  rw [Machine.receiverTick, Machine.receiverTick, hmatch]
  split
  · exact hcount.sample
  · exact hcount

/-- TICK is the receiver's part and then, during a transmission, TXSTEP. -/
theorem tick_eq_receiverTick (s : State) :
    tick s = if s.txBusy then txStep (receiverTick s) else receiverTick s := by
  by_cases hmatch : compareMatch (countTick s) = true
  · rw [tick_of_match hmatch, receiverTick, if_pos hmatch]
  · rw [tick_of_not_match hmatch, receiverTick, if_neg hmatch]

theorem receiverTick_sameReceiver_tick (s : State) : SameReceiver (receiverTick s) (tick s) := by
  rw [tick_eq_receiverTick]
  split
  · exact (txStep_frame _).1
  · exact .refl _

theorem SameReceiver.tick {s t : State} (h : SameReceiver s t) :
    SameReceiver (Machine.tick s) (Machine.tick t) :=
  (receiverTick_sameReceiver_tick s).symm.trans (h.receiverTick.trans (receiverTick_sameReceiver_tick t))

theorem SameReceiver.startGate {s t : State} (h : SameReceiver s t) :
    SameReceiver (Machine.startGate s) (Machine.startGate t) := by
  have hopen : (s.frameState = .idle ∧ s.cfg.startTh ≤ s.lowCount.toNat) ↔
      (t.frameState = .idle ∧ t.cfg.startTh ≤ t.lowCount.toNat) := by simp only [h]
  simp only [startGate_eq, hopen]
  split
  · simp [SameReceiver, firstTarget, h]
  · exact h

theorem SameReceiver.accept {s t : State} (raw : Nat) (h : SameReceiver s t) :
    SameReceiver (accumulate raw (acceptCrossing raw s)) (accumulate raw (acceptCrossing raw t)) := by
  have hsmoothed : smoothed raw s.prevSmooth = smoothed raw t.prevSmooth := by simp only [h]
  have hcfg : s.cfg = t.cfg := by simp only [h]
  simp only [accumulate, acceptCrossing_cfg, acceptCrossing_prevSmooth, hsmoothed, hcfg]
  split <;> simp [SameReceiver, h]

theorem SameReceiver.edge {s t : State} (h : SameReceiver s t) :
    SameReceiver (Machine.edge s) (Machine.edge t) := by
  have hraw : rawInterval s = rawInterval t := by simp only [rawInterval, h]
  have hen : s.en = t.en := by simp only [h]
  have hfloor : s.cfg.noiseFloor = t.cfg.noiseFloor := by simp only [h]
  simp only [Machine.edge, hraw, hen, hfloor]
  split
  · split
    · exact h
    · exact (h.accept _).startGate
  · exact h

theorem SameTransmitter.txAdvance {s t : State} (h : SameTransmitter s t) :
    SameTransmitter (Machine.txAdvance s) (Machine.txAdvance t) := by
  have hmore : (s.txIdx + 1#4).toNat < s.txNbits.toNat ↔ (t.txIdx + 1#4).toNat < t.txNbits.toNat := by
    simp only [h]
  simp only [txAdvance_eq, hmore]
  split <;> simp [SameTransmitter, h]

/-- TXSTEP reads and writes the modulator alone. -/
theorem SameTransmitter.txStep {s t : State} (h : SameTransmitter s t) :
    SameTransmitter (Machine.txStep s) (Machine.txStep t) := by
  have hcounted : ∀ {u v : State}, SameTransmitter u v →
      SameTransmitter { u with txWait := u.txWait - 1#16 } { v with txWait := v.txWait - 1#16 } := by
    intro u v huv
    simp [SameTransmitter, huv]
  have htoggle : SameTransmitter (txToggle s) (txToggle t) := by
    simp [txToggle_eq, SameTransmitter, h]
  have hend : (txToggle s).txWait - 1#16 = 0#16 ∧ (txToggle s).txHalves = 0#16 ↔
      (txToggle t).txWait - 1#16 = 0#16 ∧ (txToggle t).txHalves = 0#16 := by simp only [htoggle]
  simp only [Machine.txStep, hend]
  split
  · exact (hcounted htoggle).txAdvance
  · exact hcounted htoggle

theorem sameTransmitter_receiverTick (s : State) : SameTransmitter s (receiverTick s) := by
  rw [receiverTick]
  split
  · exact sample_sameTransmitter (countTick s)
  · exact .refl s

theorem SameTransmitter.tick {s t : State} (h : SameTransmitter s t) :
    SameTransmitter (Machine.tick s) (Machine.tick t) := by
  have hreceived : SameTransmitter (receiverTick s) (receiverTick t) :=
    (sameTransmitter_receiverTick s).symm.trans (h.trans (sameTransmitter_receiverTick t))
  have hbusy : s.txBusy = t.txBusy := by simp only [h]
  simp only [tick_eq_receiverTick, hbusy]
  split
  · exact hreceived.txStep
  · exact hreceived

/-- Settles O58: the parts of TICK, EDGE and SAMPLE each keep the agreement they read, and the frame lemmas of
TXSTEP, EDGE and SAMPLE say what each leaves to the other side. -/
theorem receiverAndTransmitterIndependent : Obligations.ReceiverAndTransmitterIndependent := by
  refine ⟨fun s s' t t' hsame => ?receiver, fun s s' t t' hsame => ?transmitter, fun s t => ?frames⟩
  case receiver =>
    have hquiet : SameReceiver s.quiet s'.quiet := hsame
    refine ⟨fun h h' => ?_, fun h h' => ?_, fun h h' => ?_⟩ <;> cases h <;> cases h'
    · exact hquiet.tick
    · exact hquiet.edge
    · exact hquiet.sample
  case transmitter =>
    have hquiet : SameTransmitter s.quiet s'.quiet := hsame
    refine ⟨fun h h' => ?_, fun h h' => ?_⟩ <;> cases h <;> cases h'
    · exact hquiet.tick
    · exact hquiet.txStep
  case frames =>
    refine ⟨fun h => ?_, fun h => ?_, fun h => ?_⟩ <;> cases h
    · exact (txStep_frame s.quiet).1
    · obtain ⟨-, -, -, -, -, -, -, -, -, -, -, hsame⟩ := edge_frame s.quiet
      exact hsame
    · exact sample_sameTransmitter s.quiet

end Sys2Proof.Machine

/-! Construction and the state after reset (00_scope.md R5 to R8, 10_state.md R50, 70_reset_and_hazards.md R261). -/

namespace Sys2Proof.Machine

/-! ### Which records are constructed -/

theorem construct_eq_ok_iff (p : Params) (s : State) :
    construct p = .ok s ↔ Constructible p ∧ State.initial (deriveConfig p) p.tcntInit = s := by
  unfold construct
  split
  case isTrue hp => exact ⟨fun hok => ⟨hp, Except.ok.inj hok⟩, fun ⟨_, hs⟩ => congrArg Except.ok hs⟩
  case isFalse hp => exact ⟨nofun, fun ⟨hp', _⟩ => absurd hp' hp⟩

theorem initial_tcnt_toNat {c : Config} {draw : Nat} (hvalid : c.Valid) (hdraw : draw < c.m) :
    (State.initial c draw).tcnt.toNat = draw :=
  hardReset_tcnt_toNat (s := State.initial c draw) hvalid hdraw

/-- Settles O60: the conditions of the statement are those of `Constructible`, and TCNT holds every draw below M. -/
theorem validParametersAreConstructed : Obligations.ValidParametersAreConstructed := by
  intro p wellGiven
  refine ⟨fun hgiven hvalid => ?constructed, fun hnot => ?refused⟩
  case constructed =>
    obtain ⟨hbaud, hlow, hhigh, hband, hnoise, hstart, hdraw⟩ := hgiven
    have hp : Constructible p := ⟨hbaud, hlow, hhigh, hband, hnoise, hstart, hdraw, hvalid⟩
    exact ⟨_, (construct_eq_ok_iff p _).2 ⟨hp, rfl⟩, rfl, initial_tcnt_toNat hvalid hdraw⟩
  case refused =>
    refine (construct_eq_error_iff p).2 fun hp => hnot ?_
    obtain ⟨hbaud, hlow, hhigh, hband, hnoise, hstart, hdraw, -⟩ := hp
    exact ⟨hbaud, hlow, hhigh, hband, hnoise, hstart, hdraw⟩

/-- Settles O10: R6's formulas at the parameters of R5, and R7's ranges at the results. -/
theorem referenceConstants : Obligations.ReferenceConstants := by
  unfold Obligations.ReferenceConstants
  decide

/-! ### The tones of a constructed block -/

/-- A nominal value lies in its own tolerance band, so what bounds the band bounds it. -/
theorem le_bandHigh {p : Params} (hden : 0 < p.bandDen) (nom : Nat) : nom ≤ bandHigh p nom := by
  rw [bandHigh, Nat.le_div_iff_mul_le hden]
  exact Nat.mul_le_mul_left nom (Nat.le_add_right _ _)

/-- The quotients of R6 are floors, so the cycles of a tone in a bit do not outlast the bit. -/
theorem cycles_mul_nominalTicks_le {p : Params} {hz : Nat} (hbaud : 0 < p.baud) :
    2 * (hz / p.baud) * nominalTicks p hz ≤ p.tickHz / p.baud := by
  rw [Nat.le_div_iff_mul_le hbaud]
  have hcyc : hz / p.baud * p.baud ≤ hz := Nat.div_mul_le_self hz p.baud
  have hnom : nominalTicks p hz * (2 * hz) ≤ p.tickHz := Nat.div_mul_le_self _ _
  calc 2 * (hz / p.baud) * nominalTicks p hz * p.baud
      = nominalTicks p hz * (2 * (hz / p.baud * p.baud)) := by ring
    _ ≤ nominalTicks p hz * (2 * hz) := Nat.mul_le_mul_left _ (Nat.mul_le_mul_left 2 hcyc)
    _ ≤ p.tickHz := hnom

theorem toneTicks_le_bitTicks {p : Params} (hp : Constructible p) (x : Bool) :
    toneTicks (deriveConfig p) x ≤ (deriveConfig p).bitTicks := by
  obtain ⟨hbaud, -⟩ := hp
  cases x
  · exact cycles_mul_nominalTicks_le hbaud
  · exact cycles_mul_nominalTicks_le hbaud

/-- A half-period is below the end of its band, and two half-periods a cycle fit a bit of at most M ticks. -/
theorem Constructible.tonesFit {p : Params} (hp : Constructible p) : (deriveConfig p).TonesFit := by
  have hlowTicks : 2 * (deriveConfig p).lowCyc * (deriveConfig p).lowNom ≤ (deriveConfig p).bitTicks :=
    toneTicks_le_bitTicks hp false
  have hhighTicks : 2 * (deriveConfig p).highCyc * (deriveConfig p).highNom ≤ (deriveConfig p).bitTicks :=
    toneTicks_le_bitTicks hp true
  obtain ⟨-, -, -, hden, -⟩ := id hp
  have hlowBand : (deriveConfig p).lowNom ≤ (deriveConfig p).lowHi := le_bandHigh hden _
  have hhighBand : (deriveConfig p).highNom ≤ (deriveConfig p).highHi := le_bandHigh hden _
  obtain ⟨-, hm, -, hbit, hlowNom, hhighNom, -, -, -, -, -, -, hlowHi, -, hhighHi⟩ := hp.valid
  have hlowCyc := Nat.le_mul_of_pos_right (2 * (deriveConfig p).lowCyc) hlowNom
  have hhighCyc := Nat.le_mul_of_pos_right (2 * (deriveConfig p).highCyc) hhighNom
  exact ⟨by omega, by omega, by omega, by omega⟩

/-- Settles O12: a constructed block has the derived configuration, and its record is constructible. -/
theorem constructedTonesFit : Obligations.ConstructedTonesFit := by
  intro p s hs
  obtain ⟨hp, rfl⟩ := (construct_eq_ok_iff p s).1 hs
  exact ⟨rfl, hp.tonesFit, toneTicks_le_bitTicks hp⟩

/-! ### The invariant of a new block -/

/-- With every register at its reset value the queue is empty and no transmission is in progress; the timer
invariant needs TCNT's range alone. -/
theorem initial_inv {c : Config} (hvalid : c.Valid) (hfit : c.TonesFit) (draw : Nat) :
    Inv (State.initial c draw) := by
  obtain ⟨hm, hm', -, -, -, -, -, -, hdepth, -⟩ := id hvalid
  have hpos : 0 < c.m := by omega
  have htcnt : (State.initial c draw).tcnt.toNat < c.m :=
    (Nat.mod_le _ _).trans_lt (Nat.mod_lt draw hpos)
  have hslot : 0 < c.depth := by omega
  have hcount : fifoCount (State.initial c draw) = 0 := subMod_of_le (Nat.le_refl 0) hslot
  refine ⟨hvalid, hfit, ⟨htcnt, hpos, hpos, hpos, fun _ => Nat.zero_le _⟩, ⟨nofun, nofun, nofun⟩, ?fifo,
    nofun, BitVec.getLsbD_zero.symm, fun _ => rfl, fun _ => ⟨rfl, rfl, rfl, rfl, rfl, rfl, rfl⟩⟩
  case fifo =>
    exact ⟨Memory.wf_nil, nofun, hslot, hslot, fun k hk => absurd (hcount ▸ hk) (Nat.not_lt_zero k)⟩

theorem hardReset_inv {s : State} (hvalid : s.cfg.Valid) (hfit : s.cfg.TonesFit) (draw : Nat) :
    Inv (hardReset s draw) :=
  initial_inv hvalid hfit draw

/-- Settles O55: a constructed block is in its reset state, in a valid configuration whose tones fit. -/
theorem invariantHoldsAtConstruction : Obligations.InvariantHoldsAtConstruction := by
  intro p s hs
  obtain ⟨hp, rfl⟩ := (construct_eq_ok_iff p s).1 hs
  exact initial_inv hp.valid hp.tonesFit _

/-- Settles O54: the reference configuration is valid and its tones fit. -/
theorem invariantHoldsAtReset : Obligations.InvariantHoldsAtReset := by
  have hvalid : Config.reference.Valid := by decide
  have hfit : Config.reference.TonesFit := by decide
  exact initial_inv hvalid hfit _

/-! ### The host's reads after a reset -/

/-- The host gets the value `v` from the read `i`. -/
def Answers (t : State) (i : Instr) (v : Half) : Prop :=
  ∃ u, exec i t = .next u ∧ u.out.response = .value v

theorem answers_of_toNat {t : State} {i : Instr} {n k : Nat}
    (h : ∃ v : Half, v.toNat = n ∧ exec i t = .next { t with out := ⟨[], .value v⟩ }) (hk : n = k) :
    Answers t i (BitVec.ofNat 16 k) := by
  obtain ⟨v, hv, hexec⟩ := h
  have hvalue : v = BitVec.ofNat 16 k := by rw [← hk, ← hv, BitVec.ofNat_toNat, BitVec.setWidth_eq]
  exact ⟨_, hexec, congrArg Response.value hvalue⟩

/-- The registers that the host can read are at the values of R50. -/
def ReadsAsReset (t : State) (draw : Nat) : Prop :=
  (∀ i ∈ [Instr.rdCtrl, .rdStatus, .rdAvail, .rdRxdata, .rdTxdata, .rdTxbit, .rdLowcnt, .rdHighcnt, .rdOcr,
      .rdLasttick, .rdPrevsm, .rdRxshift, .rdBwo, .rdReserved14, .rdReserved15], Answers t i 0#16) ∧
  Answers t .rdTcnt (BitVec.ofNat 16 draw)

theorem subMod_self (a m : Nat) : subMod a a m = 0 := by
  simp [subMod]

theorem fifoCount_of_empty {s : State} (hempty : s.head = s.tail) : fifoCount s = 0 := by
  rw [fifoCount, hempty, subMod_self]

/-- Each read's own rule, at registers that are 0 and a queue that is empty. -/
theorem readsAsReset_of_sameReceiver {c : Config} {draw : Nat} {t : State} (hvalid : c.Valid) (hdraw : draw < c.m)
    (hreset : SameReceiver (State.initial c draw) t) (hfree : t.txBusy = false) (htxen : t.txen = false)
    (htxout : t.txout = false) : ReadsAsReset t draw := by
  have hinitial := initial_tcnt_toNat hvalid hdraw
  obtain ⟨rfl, htcnt, hovf, hocr, hsampleEn, hen, hlast, hprev, hlow, hhigh, hbwo, hframe, hshift, -, hhead,
    htail⟩ := hreset
  have hempty : t.head = t.tail := hhead.symm.trans htail
  have hdebug := debugWindowReads t hfree
  have hzero := writeOnlyAndReservedReadsAreZero t hfree
  obtain ⟨hctrl, hstatus⟩ := controlAndStatusReads t hfree
  refine ⟨fun i hi => ?zero, answers_of_toNat (hdebug (.rdTcnt, t.tcnt.toNat) (by simp)) (htcnt ▸ hinitial)⟩
  case zero =>
    fin_cases hi
    · exact answers_of_toNat hctrl (by rw [← hen]; rfl)
    · exact answers_of_toNat hstatus (by rw [← hen, ← hsampleEn, ← hovf, htxen, htxout, ← hframe]; rfl)
    · exact answers_of_toNat ⟨_, availImage_toNat hvalid, hostRead_free hfree availImage⟩ (fifoCount_of_empty hempty)
    · exact ⟨_, (receiveDataRead t hfree).1 hempty, rfl⟩
    · exact ⟨_, hzero .rdTxdata (by simp), rfl⟩
    · exact ⟨_, hzero .rdTxbit (by simp), rfl⟩
    · exact answers_of_toNat (hdebug (.rdLowcnt, t.lowCount.toNat) (by simp)) (by rw [← hlow]; rfl)
    · exact answers_of_toNat (hdebug (.rdHighcnt, t.highCount.toNat) (by simp)) (by rw [← hhigh]; rfl)
    · exact answers_of_toNat (hdebug (.rdOcr, t.ocr.toNat) (by simp)) (by rw [← hocr]; rfl)
    · exact answers_of_toNat (hdebug (.rdLasttick, t.lastTick.toNat) (by simp)) (by rw [← hlast]; rfl)
    · exact answers_of_toNat (hdebug (.rdPrevsm, t.prevSmooth.toNat) (by simp)) (by rw [← hprev]; rfl)
    · exact answers_of_toNat (hdebug (.rdRxshift, t.rxShift.toNat) (by simp)) (by rw [← hshift]; rfl)
    · exact answers_of_toNat (hdebug (.rdBwo, t.bwo.toNat) (by simp)) (by rw [← hbwo]; rfl)
    · exact ⟨_, hzero .rdReserved14 (by simp), rfl⟩
    · exact ⟨_, hzero .rdReserved15 (by simp), rfl⟩

/-- Settles O14: a reset leaves the receiver as construction does, and both leave the modulator idle. -/
theorem hostReadsAfterReset : Obligations.HostReadsAfterReset := by
  refine ⟨fun c draw hvalid hdraw => ?first, fun s draw rest hrun hpending hvalid hdraw => ?later⟩
  case first => exact readsAsReset_of_sameReceiver hvalid hdraw (.refl _) rfl rfl rfl
  case later =>
    exact ⟨_, step_eq_hardReset hrun hpending,
      readsAsReset_of_sameReceiver hvalid hdraw (.refl (State.initial s.cfg draw)) rfl rfl rfl⟩

end Sys2Proof.Machine

/-! The FIFO as a bounded queue (10_state.md R34 to R37, 20_memory.md R72, 43_fifo_host.md R180 to R182, R199). -/

namespace Sys2Proof.Machine

/-! ### Indices around the ring -/

/-- The next index below the modulus, without the remainder. -/
theorem succ_mod_eq {a m : Nat} (ha : a < m) : (a + 1) % m = if a + 1 = m then 0 else a + 1 := by
  split
  case isTrue hwrap => rw [hwrap, Nat.mod_self]
  case isFalse hbelow => exact Nat.mod_eq_of_lt (by omega)

theorem add_mod_eq {a b m : Nat} (ha : a < m) (hb : b < m) :
    (a + b) % m = if a + b < m then a + b else a + b - m := by
  split
  case isTrue hbelow => exact Nat.mod_eq_of_lt hbelow
  case isFalse hwrap => rw [Nat.mod_eq_sub_mod (by omega), Nat.mod_eq_of_lt (by omega)]

theorem subMod_eq_zero_iff {a b m : Nat} (ha : a < m) (hb : b < m) : subMod a b m = 0 ↔ b = a := by
  rw [subMod_eq ha hb]
  split <;> omega

theorem subMod_eq_pred_iff {a b m : Nat} (ha : a < m) (hb : b < m) :
    subMod a b m = m - 1 ↔ (a + 1) % m = b := by
  rw [subMod_eq ha hb, succ_mod_eq ha]
  split <;> split <;> omega

theorem subMod_succ_left {a b m : Nat} (ha : a < m) (hb : b < m) (hroom : (a + 1) % m ≠ b) :
    subMod ((a + 1) % m) b m = subMod a b m + 1 := by
  have hnext : (a + 1) % m < m := Nat.mod_lt _ (Nat.zero_lt_of_lt ha)
  rw [subMod_eq hnext hb, subMod_eq ha hb]
  by_cases hwrap : a + 1 = m
  · rw [hwrap, Nat.mod_self] at hroom ⊢
    split <;> split <;> omega
  · rw [Nat.mod_eq_of_lt (by omega : a + 1 < m)] at hroom ⊢
    split <;> split <;> omega

theorem subMod_succ_right {a b m : Nat} (ha : a < m) (hb : b < m) (hbyte : b ≠ a) :
    subMod a b m = subMod a ((b + 1) % m) m + 1 := by
  have hnext : (b + 1) % m < m := Nat.mod_lt _ (Nat.zero_lt_of_lt hb)
  rw [subMod_eq ha hnext, subMod_eq ha hb]
  rw [succ_mod_eq hb] at hnext ⊢
  split <;> split <;> split <;> omega

/-- Counting on from the first index by the difference gives the second. -/
theorem add_subMod_mod {a b m : Nat} (ha : a < m) (hb : b < m) : (b + subMod a b m) % m = a := by
  rw [add_mod_eq hb (subMod_lt a b (Nat.zero_lt_of_lt ha)), subMod_eq ha hb]
  split <;> split <;> omega

theorem add_mod_ne_of_lt_subMod {a b k m : Nat} (ha : a < m) (hb : b < m) (hk : k < subMod a b m) :
    (b + k) % m ≠ a := by
  have hkm : k < m := hk.trans (subMod_lt a b (Nat.zero_lt_of_lt ha))
  rw [subMod_eq ha hb] at hk
  rw [add_mod_eq hb hkm]
  split at hk <;> split <;> omega

/-! ### The count and the slots -/

section
variable {s : State}

theorem depth_pos (hvalid : s.cfg.Valid) : 0 < s.cfg.depth := by
  obtain ⟨-, -, -, -, -, -, -, -, hdepth, -⟩ := hvalid
  omega

theorem index_toNat (hvalid : s.cfg.Valid) (i : Half) :
    (BitVec.ofNat 16 ((i.toNat + 1) % s.cfg.depth)).toNat = (i.toNat + 1) % s.cfg.depth := by
  have hpos := depth_pos hvalid
  obtain ⟨-, -, -, -, -, -, -, -, -, hdepth, -⟩ := hvalid
  exact nextIndex_toNat hpos hdepth i

theorem fifoCount_eq_pred_iff (hinv : FifoInv s) :
    fifoCount s = s.cfg.depth - 1 ↔ (s.tail.toNat + 1) % s.cfg.depth = s.head.toNat := by
  obtain ⟨-, -, hhead, htail, -⟩ := hinv
  exact subMod_eq_pred_iff htail hhead

theorem fifoCount_eq_zero_iff (hinv : FifoInv s) : fifoCount s = 0 ↔ s.head = s.tail := by
  obtain ⟨-, -, hhead, htail, -⟩ := hinv
  exact (subMod_eq_zero_iff htail hhead).trans BitVec.toNat_inj

theorem fifoPush_of_full {v : Byte} (hfull : (s.tail.toNat + 1) % s.cfg.depth = s.head.toNat) :
    fifoPush v s = s.emit (.bufferOverrun v) := by
  rw [fifoPush_eq, if_pos hfull]

theorem fifoPush_of_room {v : Byte} (hroom : (s.tail.toNat + 1) % s.cfg.depth ≠ s.head.toNat) :
    fifoPush v s =
      { s with
        buf := s.buf.write s.tail.toNat v
        tail := BitVec.ofNat 16 ((s.tail.toNat + 1) % s.cfg.depth)
        out := ⟨s.out.events ++ [.byteReceived v], s.out.response⟩ } := by
  rw [fifoPush_eq, if_neg hroom]

theorem fifoPop_of_empty (hempty : s.head = s.tail) : fifoPop s = s.emit .notAvailable := by
  rw [fifoPop_eq, if_pos hempty]

theorem fifoPop_of_byte (hbyte : s.head ≠ s.tail) :
    fifoPop s = { s with head := BitVec.ofNat 16 ((s.head.toNat + 1) % s.cfg.depth) } := by
  rw [fifoPop_eq, if_neg hbyte]

theorem fifoCount_fifoPush (hvalid : s.cfg.Valid) (hinv : FifoInv s) {v : Byte}
    (hroom : (s.tail.toNat + 1) % s.cfg.depth ≠ s.head.toNat) :
    fifoCount (fifoPush v s) = fifoCount s + 1 := by
  obtain ⟨-, -, hhead, htail, -⟩ := hinv
  rw [fifoPush_of_room hroom, fifoCount, index_toNat hvalid]
  exact subMod_succ_left htail hhead hroom

theorem fifoCount_fifoPop (hvalid : s.cfg.Valid) (hinv : FifoInv s) (hbyte : s.head ≠ s.tail) :
    fifoCount s = fifoCount (fifoPop s) + 1 := by
  obtain ⟨-, -, hhead, htail, -⟩ := hinv
  rw [fifoPop_of_byte hbyte, fifoCount, fifoCount, index_toNat hvalid]
  exact subMod_succ_right htail hhead (mt BitVec.eq_of_toNat_eq hbyte)

/-- The slots of the queue before a push keep their bytes, and the next one gets the byte pushed. -/
theorem read_fifoPush (hinv : FifoInv s) {v : Byte} (hroom : (s.tail.toNat + 1) % s.cfg.depth ≠ s.head.toNat)
    {k : Nat} (hk : k ≤ fifoCount s) :
    (fifoPush v s).buf.read ((s.head.toNat + k) % s.cfg.depth) =
      if k = fifoCount s then some v else s.buf.read ((s.head.toNat + k) % s.cfg.depth) := by
  obtain ⟨-, -, hhead, htail, -⟩ := hinv
  have hslot : (s.head.toNat + k) % s.cfg.depth = s.tail.toNat ↔ k = fifoCount s := by
    constructor
    · intro heq
      by_contra hne
      exact add_mod_ne_of_lt_subMod htail hhead (Nat.lt_of_le_of_ne hk hne) heq
    · rintro rfl
      exact add_subMod_mod htail hhead
  rw [fifoPush_of_room hroom, Memory.read_write]
  simp only [hslot]

/-- The slots after a pop are those before it, without the first. -/
theorem slot_fifoPop (hvalid : s.cfg.Valid) (hbyte : s.head ≠ s.tail) (k : Nat) :
    ((fifoPop s).head.toNat + k) % s.cfg.depth = (s.head.toNat + (k + 1)) % s.cfg.depth := by
  rw [fifoPop_of_byte hbyte, index_toNat hvalid, Nat.mod_add_mod, Nat.add_assoc, Nat.add_comm 1 k]

/-! ### Push and pop keep the FIFO's invariant -/

theorem fifoPush_fifoInv (hvalid : s.cfg.Valid) (hinv : FifoInv s) (v : Byte) : FifoInv (fifoPush v s) := by
  by_cases hroom : (s.tail.toNat + 1) % s.cfg.depth = s.head.toNat
  · rw [fifoPush_of_full hroom]
    exact hinv
  · have hcount := fifoCount_fifoPush (v := v) hvalid hinv hroom
    have hread := fun k => read_fifoPush (v := v) (k := k) hinv hroom
    have hform := fifoPush_of_room (v := v) hroom
    obtain ⟨hwf, hslots, hhead, htail, hstored⟩ := hinv
    refine ⟨fifoPush_buf_wf v hwf, ?slots, ?head, ?tail, ?stored⟩
    case slots =>
      rw [hform]
      intro c hc
      rcases Memory.mem_write hc with rfl | hc
      · exact htail
      · exact hslots c hc
    case head => rw [hform]; exact hhead
    case tail =>
      rw [hform]
      exact (index_toNat hvalid s.tail).trans_lt (Nat.mod_lt _ (depth_pos hvalid))
    case stored =>
      intro k hk
      have hsame : ((fifoPush v s).head.toNat + k) % (fifoPush v s).cfg.depth =
          (s.head.toNat + k) % s.cfg.depth := by rw [hform]
      rw [hcount] at hk
      rw [hsame, hread k (Nat.le_of_lt_succ hk)]
      split
      case isTrue => rfl
      case isFalse hne => exact hstored k (by omega)

theorem fifoPop_cfg (s : State) : (fifoPop s).cfg = s.cfg := by
  rw [fifoPop_eq]
  split <;> rfl

theorem fifoPop_fifoInv (hvalid : s.cfg.Valid) (hinv : FifoInv s) : FifoInv (fifoPop s) := by
  by_cases hbyte : s.head = s.tail
  · rw [fifoPop_of_empty hbyte]
    exact hinv
  · have hcount := fifoCount_fifoPop hvalid hinv hbyte
    have hslot := slot_fifoPop hvalid hbyte
    have hform := fifoPop_of_byte hbyte
    obtain ⟨hwf, hslots, hhead, htail, hstored⟩ := hinv
    refine ⟨?_, ?_, ?head, ?_, ?stored⟩
    case head =>
      rw [hform]
      exact (index_toNat hvalid s.head).trans_lt (Nat.mod_lt _ (depth_pos hvalid))
    case stored =>
      intro k hk
      rw [fifoPop_buf, fifoPop_cfg, hslot k]
      exact hstored (k + 1) (by omega)
    all_goals rw [hform]; assumption

/-! ### The queue -/

theorem fifoContents_length (s : State) : (fifoContents s).length = fifoCount s := by
  simp [fifoContents]

theorem slotByte_fifoPush (hinv : FifoInv s) {v : Byte}
    (hroom : (s.tail.toNat + 1) % s.cfg.depth ≠ s.head.toNat) {k : Nat} (hk : k ≤ fifoCount s) :
    slotByte (fifoPush v s) ((s.head.toNat + k) % s.cfg.depth) =
      if k = fifoCount s then v else slotByte s ((s.head.toNat + k) % s.cfg.depth) := by
  have hresets : (fifoPush v s).resetCount = s.resetCount := by rw [fifoPush_of_room hroom]
  rw [slotByte, slotByte, read_fifoPush hinv hroom hk, hresets]
  split <;> rfl

theorem fifoContents_fifoPush (hvalid : s.cfg.Valid) (hinv : FifoInv s) {v : Byte}
    (hroom : (s.tail.toNat + 1) % s.cfg.depth ≠ s.head.toNat) :
    fifoContents (fifoPush v s) = fifoContents s ++ [v] := by
  have hbyte := fun k => slotByte_fifoPush (v := v) (k := k) hinv hroom
  have hhead : (fifoPush v s).head = s.head := by rw [fifoPush_of_room hroom]
  have hcfg : (fifoPush v s).cfg = s.cfg := by rw [fifoPush_of_room hroom]
  rw [fifoContents, fifoCount_fifoPush hvalid hinv hroom, hhead, hcfg, List.range_succ, List.map_append,
    List.map_singleton, hbyte _ le_rfl, if_pos rfl, fifoContents]
  congr 1
  refine List.map_congr_left fun k hk => ?_
  have hlt := List.mem_range.1 hk
  rw [hbyte k hlt.le, if_neg hlt.ne]

theorem slotByte_fifoPop (s : State) (i : Nat) : slotByte (fifoPop s) i = slotByte s i := by
  have hresets : (fifoPop s).resetCount = s.resetCount := by rw [fifoPop_eq]; split <;> rfl
  rw [slotByte, slotByte, fifoPop_buf, hresets]

theorem fifoContents_of_empty (hempty : s.head = s.tail) : fifoContents s = [] := by
  rw [fifoContents, fifoCount_of_empty hempty, List.range_zero, List.map_nil]

/-- A pop takes the oldest byte, the one at HEAD. -/
theorem fifoContents_of_byte (hvalid : s.cfg.Valid) (hinv : FifoInv s) (hbyte : s.head ≠ s.tail) :
    fifoContents s = slotByte s s.head.toNat :: fifoContents (fifoPop s) := by
  have hfirst : (s.head.toNat + 0) % s.cfg.depth = s.head.toNat := by
    obtain ⟨-, -, hhead, -⟩ := hinv
    exact Nat.mod_eq_of_lt hhead
  rw [fifoContents, fifoCount_fifoPop hvalid hinv hbyte, List.range_succ_eq_map, List.map_cons, hfirst,
    List.map_map, fifoContents]
  congr 1
  refine List.map_congr_left fun k _ => ?_
  rw [Function.comp_apply, slotByte_fifoPop, fifoPop_cfg, slot_fifoPop hvalid hbyte]

/-- A pop, by any agent and with its response, seen from the queue. -/
theorem pop_contents (hvalid : s.cfg.Valid) (hinv : FifoInv s) (answer : Option Byte → Response) :
    let t := (fifoPop s.quiet).respond (answer (popResult s))
    match fifoContents s with
    | [] => fifoContents t = [] ∧ t.out = ⟨[.notAvailable], answer none⟩
    | b :: rest => fifoContents t = rest ∧ t.out = ⟨[], answer (some b)⟩ := by
  intro t
  by_cases hbyte : s.head = s.tail
  · have ht : t = { s with out := ⟨[.notAvailable], answer none⟩ } := by
      rw [← fifoPop_quiet_respond_of_empty hbyte, ← popResult_of_empty hbyte]
    rw [fifoContents_of_empty hbyte, ht]
    exact ⟨fifoContents_of_empty hbyte, rfl⟩
  · have ht : t = { fifoPop s with out := ⟨[], answer (some (slotByte s s.head.toNat))⟩ } := by
      rw [fifoPop_of_byte hbyte, ← fifoPop_quiet_respond_of_not_empty hbyte, ← popResult_of_not_empty hbyte]
    rw [fifoContents_of_byte hvalid hinv hbyte, ht]
    exact ⟨rfl, rfl⟩

end

/-- Settles O35: the count never reaches DEPTH, and the three operations act on the contents as on a list; that a
push finds no room exactly at DEPTH - 1 bytes is `fifoCount_eq_pred_iff`. -/
theorem fifoIsABoundedQueue : Obligations.FifoIsABoundedQueue := by
  intro s hvalid hinv
  have hlength := fifoContents_length s
  refine ⟨?bound, fun v => ⟨_, exec_fifoPush v s, ?push⟩, ⟨_, exec_fifoPop s, ?pop⟩,
    fun hfree => ⟨_, exec_rdRxdata_of_free hfree, ?read⟩, fun hfree => ⟨availImage s, ?avail, ?_⟩⟩
  case bound =>
    rw [hlength]
    exact Nat.le_sub_one_of_lt (fifoCount_lt_depth hvalid)
  case push =>
    simp only [hlength, fifoCount_eq_pred_iff hinv]
    split
    case isTrue hfull =>
      rw [fifoPush_of_full (s := s.quiet) hfull]
      exact ⟨rfl, rfl⟩
    case isFalse hroom =>
      refine ⟨fifoContents_fifoPush (s := s.quiet) hvalid hinv hroom, ?_⟩
      rw [fifoPush_of_room (s := s.quiet) hroom]
      rfl
  case pop => exact pop_contents hvalid hinv .popped
  case read =>
    have hpop := pop_contents hvalid hinv fun r => .value (rxdataImage r)
    simp only [rxdataImage_none, rxdataImage_some] at hpop
    exact hpop
  case avail => rw [availImage_toNat hvalid, hlength]
  · exact hostRead_free hfree availImage

/-- Settles O36: AVAIL is 0 when the count is, and RXDATA of a byte has VALID set. -/
theorem availZeroExactlyWhenReadIsNone : Obligations.AvailZeroExactlyWhenReadIsNone := by
  intro s hvalid hinv hfree
  refine ⟨_, _, hostRead_free hfree availImage, exec_rdRxdata_of_free hfree, ?avail, ?read⟩
  case avail =>
    rw [← fifoCount_eq_zero_iff hinv, ← availImage_toNat hvalid]
    simp only [Response.value.injEq]
    exact BitVec.toNat_inj.symm
  case read =>
    rw [State.respond_out_response, Response.value.injEq]
    by_cases hbyte : s.head = s.tail
    · rw [popResult_of_empty hbyte]
      exact iff_of_true rfl hbyte
    · rw [popResult_of_not_empty hbyte, rxdataImage_some]
      refine iff_of_false (fun hzero => ?_) hbyte
      have hvalue := congrArg BitVec.toNat hzero
      have hlt := (slotByte s s.head.toNat).isLt
      rw [BitVec.toNat_ofNat, Nat.mod_eq_of_lt (by omega)] at hvalue
      simp at hvalue

end Sys2Proof.Machine

/-! The invariant of a run, and that every step keeps it (10_state.md, 41_classifier.md R121, 43_fifo_host.md,
44_modulator.md R213). -/

namespace Sys2Proof.Machine

/-! ### What each part of the invariant reads -/

section
variable {s t : State}

theorem TimerInv.of_same (hcfg : t.cfg = s.cfg) (htcnt : t.tcnt = s.tcnt) (hovf : t.ovf = s.ovf)
    (hocr : t.ocr = s.ocr) (hlast : t.lastTick = s.lastTick) (hbwo : t.bwo = s.bwo) (h : TimerInv s) :
    TimerInv t := by
  simpa only [TimerInv, hcfg, htcnt, hovf, hocr, hlast, hbwo] using h

theorem FifoInv.of_same (hcfg : t.cfg = s.cfg) (hbuf : t.buf = s.buf) (hhead : t.head = s.head)
    (htail : t.tail = s.tail) (h : FifoInv s) : FifoInv t := by
  simpa only [FifoInv, fifoCount, hcfg, hbuf, hhead, htail] using h

theorem ModulatorInv.of_same (hsame : SameTransmitter s t) (h : ModulatorInv s) : ModulatorInv t := by
  obtain ⟨hcfg, hbusy, hframe, hnbits, hidx, hhalves, hwait, hhalf, htxout⟩ := hsame
  simpa only [ModulatorInv, hcfg, hbusy, hframe, hnbits, hidx, hhalves, hwait, hhalf, htxout] using h

/-! ### The timer -/

theorem m_pos (hvalid : s.cfg.Valid) : 0 < s.cfg.m := by
  obtain ⟨hm, -⟩ := hvalid
  omega

/-- A remainder modulo M fits the 15 bits of a timer register and stays below M. -/
theorem timerWord_toNat (hvalid : s.cfg.Valid) {n : Nat} (hn : n < s.cfg.m) : (BitVec.ofNat 15 n).toNat = n := by
  obtain ⟨-, hm, -⟩ := hvalid
  exact Nat.mod_eq_of_lt (by omega)

theorem nextCount_lt (hvalid : s.cfg.Valid) : nextCount s < s.cfg.m := Nat.mod_lt _ (m_pos hvalid)

/-- While OVF stays clear the count has not wrapped, so it is one more than before. -/
theorem nextCount_of_overflow_clear (htcnt : s.tcnt.toNat < s.cfg.m) (hclear : overflowAfterTick s = false) :
    s.ovf = false ∧ nextCount s = s.tcnt.toNat + 1 := by
  obtain ⟨hovf, hnext⟩ := (Bool.or_eq_false_iff).1 hclear
  have hne : nextCount s ≠ 0 := by simpa using hnext
  refine ⟨hovf, ?_⟩
  rw [nextCount, succ_mod_eq htcnt] at hne ⊢
  split at hne
  case isTrue => exact absurd rfl hne
  case isFalse hbelow => rw [if_neg hbelow]

theorem countTick_timerInv (hvalid : s.cfg.Valid) (h : TimerInv s) : TimerInv (countTick s) := by
  obtain ⟨htcnt, hocr, hlast, hbwo, horder⟩ := h
  have hnext := timerWord_toNat hvalid (nextCount_lt hvalid)
  refine ⟨hnext.trans_lt (nextCount_lt hvalid), hocr, hlast, hbwo, fun hclear => ?_⟩
  obtain ⟨hovf, hcount⟩ := nextCount_of_overflow_clear htcnt hclear
  have hle := horder hovf
  rw [countTick_tcnt, countTick_lastTick, hnext, hcount]
  omega

theorem nextTarget_lt (hvalid : s.cfg.Valid) : (nextTarget s).toNat < s.cfg.m := by
  have hlt := Nat.mod_lt (s.ocr.toNat + s.cfg.bitTicks) (m_pos hvalid)
  rw [nextTarget, timerWord_toNat hvalid hlt]
  exact hlt

theorem sample_timerInv (hvalid : s.cfg.Valid) (h : TimerInv s) : TimerInv (sample s) := by
  obtain ⟨htcnt, -, hlast, hbwo, horder⟩ := h
  obtain ⟨ecfg, etcnt, eovf, -, -, elast, -, ebwo, -⟩ := sample_frame s
  have hocr := nextTarget_lt hvalid
  simp only [TimerInv, ecfg, etcnt, eovf, elast, ebwo, sample_ocr]
  exact ⟨htcnt, hocr, hlast, hbwo, horder⟩

theorem firstTarget_lt (hvalid : s.cfg.Valid) : (firstTarget s).toNat < s.cfg.m := by
  unfold firstTarget
  split
  · have hlt := subMod_lt (s.tcnt.toNat + s.cfg.bitTicks) s.lowCount.toNat (m_pos hvalid)
    exact (timerWord_toNat hvalid hlt).trans_lt hlt
  · have hlt := Nat.mod_lt (s.tcnt.toNat + s.cfg.bitTicks) (m_pos hvalid)
    exact (timerWord_toNat hvalid hlt).trans_lt hlt

theorem startGate_timerInv (hvalid : s.cfg.Valid) (h : TimerInv s) : TimerInv (startGate s) := by
  rw [startGate_eq]
  split
  · obtain ⟨htcnt, -, hlast, -, horder⟩ := h
    exact ⟨htcnt, firstTarget_lt hvalid, hlast, htcnt, horder⟩
  · exact h

theorem edge_timerInv (hvalid : s.cfg.Valid) (h : TimerInv s) : TimerInv (edge s) := by
  rcases edge_cases s with ⟨-, heq⟩ | ⟨-, -, heq⟩ | ⟨-, -, heq⟩ <;> rw [heq]
  · exact h
  · exact h
  · obtain ⟨htcnt, hocr, -, hbwo, -⟩ := h
    have haccepted : TimerInv (acceptCrossing (rawInterval s) s) := ⟨htcnt, hocr, htcnt, hbwo, fun _ => le_rfl⟩
    have haccumulated : TimerInv (accumulate (rawInterval s) (acceptCrossing (rawInterval s) s)) := by
      rw [accumulate_eq]
      exact haccepted
    refine startGate_timerInv ?_ haccumulated
    rw [accumulate_eq]
    exact hvalid

/-! ### The modulator -/

theorem toneNom_bounds {c : Config} (hvalid : c.Valid) (hfit : c.TonesFit) (x : Bool) :
    1 ≤ toneNom c x ∧ toneNom c x ≤ 65535 := by
  obtain ⟨-, -, -, -, hlow, hhigh, -⟩ := hvalid
  obtain ⟨hlow', hhigh', -⟩ := hfit
  cases x
  · exact ⟨hlow, hlow'⟩
  · exact ⟨hhigh, hhigh'⟩

theorem toneCyc_bounds {c : Config} (hvalid : c.Valid) (hfit : c.TonesFit) (x : Bool) :
    1 ≤ toneCyc c x ∧ 2 * toneCyc c x ≤ 65535 := by
  obtain ⟨-, -, -, -, -, -, hlow, hhigh, -⟩ := hvalid
  obtain ⟨-, -, hlow', hhigh'⟩ := hfit
  cases x
  · exact ⟨hlow, hlow'⟩
  · exact ⟨hhigh, hhigh'⟩

theorem toneNom_half_toNat {c : Config} (hvalid : c.Valid) (hfit : c.TonesFit) (x : Bool) :
    (BitVec.ofNat 16 (toneNom c x)).toNat = toneNom c x := by
  obtain ⟨-, hle⟩ := toneNom_bounds hvalid hfit x
  exact Nat.mod_eq_of_lt (by omega)

theorem toneCyc_halves_toNat {c : Config} (hvalid : c.Valid) (hfit : c.TonesFit) (x : Bool) :
    (BitVec.ofNat 16 (2 * toneCyc c x)).toNat = 2 * toneCyc c x := by
  obtain ⟨-, hle⟩ := toneCyc_bounds hvalid hfit x
  exact Nat.mod_eq_of_lt (by omega)

theorem getLsbD_zero_eq (h : Half) : h.getLsbD 0 = decide (h.toNat % 2 = 1) := by
  rw [BitVec.getLsbD, Nat.testBit_zero]

/-- A half-cycle less turns the parity of the count. -/
theorem getLsbD_zero_sub_one (h : Half) : (h - 1#16).getLsbD 0 = !h.getLsbD 0 := by
  have hlt := h.isLt
  rw [getLsbD_zero_eq, getLsbD_zero_eq, BitVec.toNat_sub, ← decide_not]
  apply decide_eq_decide.2
  simp
  omega

/-- A loaded bit is at the start of its first half-cycle, of an even number of them. -/
theorem loadBit_modulatorInv (hvalid : s.cfg.Valid) (hfit : s.cfg.TonesFit) (x : Bool)
    (hmod : s.cfg.hasModulator = true) (hbusy : s.txBusy = true) (hidx : s.txIdx.toNat < s.txNbits.toNat)
    (hnbits : s.txNbits.toNat ≤ 13) (htxout : s.txout = false) : ModulatorInv (loadBit x s) := by
  obtain ⟨hnom, -⟩ := toneNom_bounds hvalid hfit x
  obtain ⟨hcyc, -⟩ := toneCyc_bounds hvalid hfit x
  have hhalf := toneNom_half_toNat hvalid hfit x
  have hhalves := toneCyc_halves_toNat hvalid hfit x
  refine ⟨fun _ => ⟨hmod, ?wait, fun _ => ?halves, hidx, hnbits⟩, ?parity, ?idle, ?absent⟩
  case wait =>
    rw [loadBit_txHalf, hhalf]
    exact hnom
  case halves =>
    rw [loadBit_txHalves]
    intro hzero
    have hvalue := congrArg BitVec.toNat hzero
    rw [hhalves] at hvalue
    simp at hvalue
    omega
  case parity =>
    rw [loadBit_txout, loadBit_txHalves, getLsbD_zero_eq, hhalves, htxout]
    simp
  case idle => exact fun hidle => absurd hbusy (ne_true_of_eq_false hidle)
  case absent => exact fun habsent => absurd hmod (ne_true_of_eq_false habsent)

theorem startTransmission_modulatorInv (hvalid : s.cfg.Valid) (hfit : s.cfg.TonesFit) (f : BitVec 13) {n : BitVec 4}
    (hn : 0 < n.toNat) (hn' : n.toNat ≤ 13) (hmod : s.cfg.hasModulator = true) (hbusy : s.txBusy = false)
    (h : ModulatorInv s) : ModulatorInv (startTransmission f n s) := by
  obtain ⟨-, -, hidle, -⟩ := h
  exact loadBit_modulatorInv (s := { s with txFrame := f, txNbits := n, txIdx := 0#4, txBusy := true })
    hvalid hfit _ hmod rfl hn hn' (hidle hbusy)

/-- The countdown of a half-cycle stays below its length. -/
theorem wait_sub_one_toNat {w : Half} {n : Nat} (hpos : w ≠ 0#16) (hlt : w.toNat ≤ n) :
    (w - 1#16).toNat < n := by
  have hne : w.toNat ≠ 0 := fun hzero => hpos (BitVec.eq_of_toNat_eq hzero)
  have hw := w.isLt
  rw [BitVec.toNat_sub]
  simp
  omega

theorem txStep_modulatorInv (hvalid : s.cfg.Valid) (hfit : s.cfg.TonesFit) (hbusy : s.txBusy = true)
    (h : ModulatorInv s) : ModulatorInv (txStep s) := by
  obtain ⟨hactive, hparity, -, -⟩ := h
  obtain ⟨hmod, hwait, hmore, hidx, hnbits⟩ := hactive hbusy
  have hhalf : s.txHalf ≠ 0#16 := by
    intro hzero
    rw [hzero] at hwait
    exact Nat.not_lt_zero _ hwait
  obtain ⟨u, hu, hcases⟩ := txStep_cases s
  have hparity' : u.txout = u.txHalves.getLsbD 0 := by
    rw [hu]
    dsimp only
    split
    · rw [getLsbD_zero_sub_one, hparity]
    · exact hparity
  have hwait' : u.txWait.toNat < u.txHalf.toNat := by
    rw [hu]
    dsimp only
    split
    · exact wait_sub_one_toNat hhalf le_rfl
    case isFalse hpos => exact wait_sub_one_toNat hpos hwait.le
  have hcfg' : u.cfg = s.cfg := by rw [hu]
  have hmod' : u.cfg.hasModulator = true := by rwa [hcfg']
  have hbusy' : u.txBusy = true := by rwa [hu]
  have hnbits' : u.txNbits.toNat ≤ 13 := by rwa [hu]
  rcases hcases with ⟨hzero, hdone, hstep⟩ | ⟨hwithin, hstep⟩ <;> rw [hstep]
  · have htxout : u.txout = false := by
      rw [hparity', hdone]
      exact BitVec.getLsbD_zero
    rcases Nat.lt_or_ge (u.txIdx + 1#4).toNat u.txNbits.toNat with hnext | hlast
    · rw [txAdvance_of_more hnext]
      exact loadBit_modulatorInv (s := { u with txIdx := u.txIdx + 1#4 }) (hcfg' ▸ hvalid) (hcfg' ▸ hfit) _
        hmod' hbusy' hnext hnbits' htxout
    · rw [txAdvance_of_last hlast]
      exact ⟨nofun, hparity', fun _ => htxout, fun habsent => absurd hmod' (ne_true_of_eq_false habsent)⟩
  · have hidx' : u.txIdx.toNat < u.txNbits.toNat := by rwa [hu]
    exact ⟨fun _ => ⟨hmod', hwait', fun hzero hdone => hwithin ⟨hzero, hdone⟩, hidx', hnbits'⟩, hparity',
      fun hidle => absurd hbusy' (ne_true_of_eq_false hidle),
      fun habsent => absurd hmod' (ne_true_of_eq_false habsent)⟩

/-! ### The receiver's operations -/

/-- SAMPLE touches the FIFO only by a push. -/
theorem sample_fifoInv (hvalid : s.cfg.Valid) (h : FifoInv s) : FifoInv (sample s) := by
  rw [sample_eq_frameTransition]
  have hrescheduled : FifoInv (rescheduled s) := h
  cases hrow : s.frameState with
  | idle => rwa [frameTransition_of_idle (s := rescheduled s) _ hrow]
  | start =>
    rw [frameTransition_of_start (s := rescheduled s) _ hrow]
    split <;> exact hrescheduled
  | data i =>
    rw [frameTransition_of_data (s := rescheduled s) _ hrow]
    exact hrescheduled
  | parity =>
    rw [frameTransition_of_parity (s := rescheduled s) _ hrow]
    exact hrescheduled
  | stop =>
    have hpush : FifoInv (fifoPush s.rxShift (rescheduled s)) :=
      fifoPush_fifoInv (s := rescheduled s) hvalid hrescheduled _
    have hstop : frameTransition (decideBit s) (rescheduled s) =
        { fifoPush s.rxShift (rescheduled s) with frameState := .idle, sampleEn := false } := by
      simp only [frameTransition, rescheduled_frameState, hrow]
      rfl
    rw [hstop]
    exact hpush

theorem sample_lifecycleInv (h : LifecycleInv s) : LifecycleInv (sample s) := by
  obtain ⟨hsampleEn, hen, hbusy⟩ := h
  obtain ⟨-, -, -, een, etxen, -⟩ := sample_frame s
  obtain ⟨-, ebusy, -⟩ := sample_sameTransmitter s
  simp only [LifecycleInv, een, etxen, ← ebusy]
  refine ⟨fun hset => hsampleEn ?_, hen, hbusy⟩
  rcases sample_sampleEn_cases s with hkept | hcleared
  · rwa [← hkept]
  · rw [hcleared] at hset
    cases hset

theorem edge_lifecycleInv (h : LifecycleInv s) : LifecycleInv (edge s) := by
  obtain ⟨hsampleEn, hen, hbusy⟩ := h
  obtain ⟨-, -, een, etxen, -, -, -, -, -, -, -, -, ebusy, -⟩ := edge_frame s
  obtain ⟨-, hwrites, -⟩ := edge_writes s
  simp only [LifecycleInv, een, etxen, ← ebusy]
  refine ⟨fun hset => ?_, hen, hbusy⟩
  rcases hwrites with hkept | ⟨hset', -⟩
  · exact hsampleEn (hkept ▸ hset)
  · exact hset'

/-! ### The whole invariant, operation by operation -/

theorem Inv.sample (h : Inv s) : Inv (sample s) := by
  obtain ⟨hvalid, hfit, htimer, hlife, hfifo, hmod⟩ := h
  obtain ⟨ecfg, -⟩ := sample_frame s
  exact ⟨ecfg ▸ hvalid, ecfg ▸ hfit, sample_timerInv hvalid htimer, sample_lifecycleInv hlife,
    sample_fifoInv hvalid hfifo, hmod.of_same (sample_sameTransmitter s)⟩

theorem Inv.countTick (h : Inv s) : Inv (countTick s) := by
  obtain ⟨hvalid, hfit, htimer, hlife, hfifo, hmod⟩ := h
  exact ⟨hvalid, hfit, countTick_timerInv hvalid htimer, hlife, hfifo, hmod⟩

theorem Inv.receiverTick (h : Inv s) : Inv (receiverTick s) := by
  unfold Machine.receiverTick
  split
  · exact h.countTick.sample
  · exact h.countTick

/-- TXSTEP is performed during a transmission only, and may end it. -/
theorem Inv.txStep (h : Inv s) (hbusy : s.txBusy = true) : Inv (txStep s) := by
  obtain ⟨hvalid, hfit, htimer, ⟨hsampleEn, hen, htx⟩, hfifo, hmod⟩ := h
  obtain ⟨⟨ecfg, etcnt, eovf, eocr, esampleEn, een, elast, -, -, -, ebwo, -, -, ebuf, ehead, etail⟩, etxen, -⟩ :=
    txStep_frame s
  refine ⟨ecfg ▸ hvalid, ecfg ▸ hfit,
    htimer.of_same ecfg.symm etcnt.symm eovf.symm eocr.symm elast.symm ebwo.symm, ?life,
    hfifo.of_same ecfg.symm ebuf.symm ehead.symm etail.symm, txStep_modulatorInv hvalid hfit hbusy hmod⟩
  case life =>
    simp only [LifecycleInv, ← esampleEn, ← een, etxen]
    exact ⟨hsampleEn, hen, fun _ => htx hbusy⟩

theorem Inv.tick (h : Inv s) : Inv (tick s) := by
  have hbusy : s.txBusy = (Machine.receiverTick s).txBusy := (sameTransmitter_receiverTick s).2.1
  rw [tick_eq_receiverTick]
  split
  case isTrue hset => exact h.receiverTick.txStep (hbusy ▸ hset)
  case isFalse => exact h.receiverTick

theorem Inv.edge (h : Inv s) : Inv (edge s) := by
  obtain ⟨hvalid, hfit, htimer, hlife, hfifo, hmod⟩ := h
  obtain ⟨ecfg, -, -, -, ebuf, ehead, etail, -, -, -, -, hsame⟩ := edge_frame s
  exact ⟨ecfg ▸ hvalid, ecfg ▸ hfit, edge_timerInv hvalid htimer, edge_lifecycleInv hlife,
    hfifo.of_same ecfg ebuf ehead etail, hmod.of_same hsame⟩

theorem Inv.beginOp (h : Inv s) : Inv (beginOp s) := by
  obtain ⟨hvalid, hfit, ⟨htcnt, hocr, -, hbwo, -⟩, -, hfifo, hmod⟩ := h
  exact ⟨hvalid, hfit, ⟨htcnt, hocr, htcnt, hbwo, fun _ => le_rfl⟩, ⟨nofun, fun _ => rfl, fun _ => rfl⟩, hfifo, hmod⟩

theorem Inv.endOp (h : Inv s) : Inv (endOp s) := by
  obtain ⟨hvalid, hfit, htimer, ⟨-, -, hbusy⟩, hfifo, hmod⟩ := h
  exact ⟨hvalid, hfit, htimer, ⟨nofun, nofun, hbusy⟩, hfifo, hmod⟩

theorem Inv.fifoPush (h : Inv s) (v : Byte) : Inv (fifoPush v s) := by
  obtain ⟨hvalid, hfit, htimer, hlife, hfifo, hmod⟩ := h
  have hpush := fifoPush_fifoInv hvalid hfifo v
  rw [fifoPush_eq] at hpush ⊢
  split at hpush
  case isTrue hfull => rw [if_pos hfull]; exact ⟨hvalid, hfit, htimer, hlife, hpush, hmod⟩
  case isFalse hroom => rw [if_neg hroom]; exact ⟨hvalid, hfit, htimer, hlife, hpush, hmod⟩

theorem Inv.fifoPop (h : Inv s) : Inv (fifoPop s) := by
  obtain ⟨hvalid, hfit, htimer, hlife, hfifo, hmod⟩ := h
  have hpop := fifoPop_fifoInv hvalid hfifo
  rw [fifoPop_eq] at hpop ⊢
  split at hpop
  case isTrue hempty => rw [if_pos hempty]; exact ⟨hvalid, hfit, htimer, hlife, hpop, hmod⟩
  case isFalse hbyte => rw [if_neg hbyte]; exact ⟨hvalid, hfit, htimer, hlife, hpop, hmod⟩

theorem Inv.transmitWrite (h : Inv s) (hfree : s.txBusy = false) (f : BitVec 13) {n : BitVec 4}
    (hn : 0 < n.toNat) (hn' : n.toNat ≤ 13) : Inv (transmitWrite f n s) := by
  rcases transmitWrite_cases f n s with ⟨-, heq⟩ | ⟨-, -, heq⟩ | ⟨hmodulator, htxen, heq⟩ <;> rw [heq]
  · exact h
  · exact h
  · obtain ⟨hvalid, hfit, htimer, ⟨hsampleEn, hen, -⟩, hfifo, hmod⟩ := h
    exact ⟨hvalid, hfit, htimer, ⟨hsampleEn, hen, fun _ => htxen⟩, hfifo,
      startTransmission_modulatorInv hvalid hfit f hn hn' hmodulator hfree hmod⟩

theorem Inv.with_stimuli (h : Inv s) (l : List Stimulus) : Inv { s with stimuli := l } := h

end

/-! ### The step -/

/-- Every instruction that has a word keeps the invariant; TXSTEP alone, without one, needs a transmission. -/
theorem exec_inv {i : Instr} {s t : State} (hword : i.hasWord = true) (hinv : Inv s) (h : exec i s = .next t) :
    Inv t := by
  have hquiet : Inv s.quiet := hinv
  rcases exec_cases h with ⟨rfl, rfl⟩ | ⟨rfl, rfl⟩ | ⟨rfl, rfl⟩ | ⟨rfl, rfl⟩ | ⟨v, rfl, rfl⟩ | ⟨rfl, rfl⟩ |
    ⟨w, rfl, rfl⟩ | ⟨-, r, rfl⟩ | ⟨hfree, ⟨rfl, rfl⟩ | ⟨x, rfl, rfl⟩ | ⟨x, rfl, rfl⟩ | ⟨x, b, rfl, rfl⟩ |
    ⟨x, b, rfl, rfl⟩⟩
  · exact hquiet.tick
  · exact hquiet.edge
  · exact hquiet.sample
  · cases hword
  · exact hquiet.fifoPush v
  · exact hquiet.fifoPop
  · exact hinv
  · exact hinv
  · exact hquiet.fifoPop
  · exact hquiet.beginOp
  · exact hquiet.endOp
  · exact hquiet.transmitWrite hfree _ (by decide) (by decide)
  · exact hquiet.transmitWrite hfree _ (by decide) (by decide)

/-- Settles O53: a step is a hardware reset, which starts from the invariant again, or an instruction that a word
decodes to, on a state that differs in the list of stimuli alone. -/
theorem invariantKeptByEveryStep : Obligations.InvariantKeptByEveryStep := by
  intro s t hinv hstep
  obtain ⟨-, ⟨draw, rest, -, rfl⟩ | ⟨w, rest, -, hexec⟩⟩ := step_cases hstep
  · obtain ⟨hvalid, hfit, -⟩ := hinv
    exact hardReset_inv (s := { s with stimuli := rest }) hvalid hfit draw
  · obtain ⟨-, -, hword⟩ := encodeOfDecode w
    exact exec_inv hword (hinv.with_stimuli _) hexec

end Sys2Proof.Machine

/-! Intervals of TICKs: the sample at the compare distance (40_timer.md R107), the measured interval
(70_reset_and_hazards.md R265) and the distance of the first sample (R266). -/

namespace Sys2Proof.Machine

/-! ### The timer along a run of TICKs -/

section
variable {s : State}

theorem afterTicks_succ (n : Nat) (s : State) : afterTicks (n + 1) s = tick (afterTicks n s).quiet := rfl

theorem afterTicks_cfg (n : Nat) (s : State) : (afterTicks n s).cfg = s.cfg := by
  induction n with
  | zero => rfl
  | succ n ih =>
    obtain ⟨hcfg, -⟩ := tick_frame (afterTicks n s).quiet
    exact hcfg.trans ih

theorem afterTicks_lastTick (n : Nat) (s : State) : (afterTicks n s).lastTick = s.lastTick := by
  induction n with
  | zero => rfl
  | succ n ih =>
    obtain ⟨-, -, -, -, -, hlast, -⟩ := tick_frame (afterTicks n s).quiet
    exact hlast.trans ih

/-- TCNT counts the TICKs modulo M. -/
theorem afterTicks_tcnt (hvalid : s.cfg.Valid) (htcnt : s.tcnt.toNat < s.cfg.m) (n : Nat) :
    (afterTicks n s).tcnt.toNat = (s.tcnt.toNat + n) % s.cfg.m := by
  induction n with
  | zero => exact (Nat.mod_eq_of_lt htcnt).symm
  | succ n ih =>
    obtain ⟨-, hnext, -⟩ := tick_frame (afterTicks n s).quiet
    have hcount : nextCount (afterTicks n s).quiet = (s.tcnt.toNat + (n + 1)) % s.cfg.m := by
      rw [nextCount, State.quiet_tcnt, State.quiet_cfg, ih, afterTicks_cfg, Nat.mod_add_mod, Nat.add_assoc]
    rw [afterTicks_succ, hnext, hcount]
    exact timerWord_toNat hvalid (Nat.mod_lt _ (m_pos hvalid))

/-- OVF is set once the count has wrapped, however often. -/
theorem afterTicks_ovf (hvalid : s.cfg.Valid) (htcnt : s.tcnt.toNat < s.cfg.m) (hclear : s.ovf = false) (n : Nat) :
    (afterTicks n s).ovf = decide (s.cfg.m ≤ s.tcnt.toNat + n) := by
  induction n with
  | zero => rw [afterTicks, hclear, Nat.add_zero, decide_eq_false (Nat.not_le.2 htcnt)]
  | succ n ih =>
    obtain ⟨-, -, hovf, -⟩ := tick_frame (afterTicks n s).quiet
    have hcount : nextCount (afterTicks n s).quiet = (s.tcnt.toNat + (n + 1)) % s.cfg.m := by
      rw [nextCount, State.quiet_tcnt, State.quiet_cfg, afterTicks_tcnt hvalid htcnt, afterTicks_cfg,
        Nat.mod_add_mod, Nat.add_assoc]
    rw [afterTicks_succ, hovf, overflowAfterTick, hcount, State.quiet_ovf, ih]
    rcases Nat.lt_or_ge (s.tcnt.toNat + n) s.cfg.m with hbelow | hwrapped
    · rw [decide_eq_false (Nat.not_le.2 hbelow), Bool.false_or, ← Nat.add_assoc, succ_mod_eq hbelow]
      by_cases hwrap : s.tcnt.toNat + n + 1 = s.cfg.m
      · simp [hwrap]
      · rw [if_neg hwrap, decide_eq_false (by omega)]
        rfl
    · rw [decide_eq_true hwrapped, Bool.true_or, decide_eq_true (by omega)]

/-! ### The measured interval -/

/-- R265 in one equation: the wraps after the first are lost. -/
theorem rawInterval_afterTicks (hvalid : s.cfg.Valid) (hlast : s.lastTick.toNat < s.cfg.m)
    (horigin : s.tcnt = s.lastTick) (hclear : s.ovf = false) (e : Nat) :
    rawInterval (afterTicks e s) = e - ((s.lastTick.toNat + e) / s.cfg.m - 1) * s.cfg.m := by
  have htcnt : s.tcnt.toNat < s.cfg.m := horigin ▸ hlast
  have hcount := afterTicks_tcnt hvalid htcnt e
  have hmod := Nat.div_add_mod (s.lastTick.toNat + e) s.cfg.m
  have hrem := Nat.mod_lt (s.lastTick.toNat + e) (m_pos hvalid)
  rw [horigin] at hcount
  rw [rawInterval, afterTicks_ovf hvalid htcnt hclear, afterTicks_cfg, afterTicks_lastTick, hcount, horigin]
  rcases Nat.lt_or_ge (s.lastTick.toNat + e) s.cfg.m with hbelow | hwrapped
  · rw [decide_eq_false (Nat.not_le.2 hbelow), if_neg Bool.false_ne_true, Nat.mod_eq_of_lt hbelow,
      Nat.div_eq_of_lt hbelow, subMod_of_le (Nat.le_add_right _ _) hbelow]
    simp
  · rw [decide_eq_true hwrapped, if_pos rfl]
    obtain ⟨k, hk⟩ : ∃ k, (s.lastTick.toNat + e) / s.cfg.m = k + 1 :=
      Nat.exists_eq_succ_of_ne_zero (Nat.div_pos hwrapped (m_pos hvalid)).ne'
    rw [hk] at hmod ⊢
    rw [Nat.add_sub_cancel]
    have hprod : s.cfg.m * (k + 1) = k * s.cfg.m + s.cfg.m := by ring
    omega

/-- Settles O24: the interval is `e` less the wraps after the first, `(k - 1) M`. -/
theorem intervalMeasuredModuloWraps : Obligations.IntervalMeasuredModuloWraps := by
  intro s e hvalid hlast horigin hclear k
  have hraw : rawInterval (afterTicks e s) = e - (k - 1) * s.cfg.m :=
    rawInterval_afterTicks hvalid hlast horigin hclear e
  have hm := m_pos hvalid
  have hlost : (k - 1) * s.cfg.m ≤ e := by
    have hle : k * s.cfg.m ≤ s.lastTick.toNat + e := Nat.div_mul_le_self _ _
    rw [Nat.sub_mul]
    omega
  have hfew : k ≤ 1 ↔ s.lastTick.toNat + e < 2 * s.cfg.m := by
    rw [← Nat.div_lt_iff_lt_mul hm]
    exact Nat.lt_succ_iff.symm
  refine ⟨fun hk => ?once, fun _ => hraw, ?congruent, ?exact⟩
  case once => rw [hraw, Nat.sub_eq_zero_of_le hk, Nat.zero_mul, Nat.sub_zero]
  case congruent =>
    rw [Nat.mul_comm] at hraw hlost
    rw [hraw, Nat.sub_mul_mod hlost]
  case exact =>
    rw [hraw, ← hfew]
    constructor
    · intro heq
      by_contra hk
      have hpos : 0 < (k - 1) * s.cfg.m := Nat.mul_pos (by omega) hm
      omega
    · intro hk
      rw [Nat.sub_eq_zero_of_le hk, Nat.zero_mul, Nat.sub_zero]

/-! ### Between two samples -/

/-- R107's distance is the number of counts to the target: fewer do not reach it. -/
theorem tcnt_ne_ocr_before (htcnt : s.tcnt.toNat < s.cfg.m)
    (hocr : s.ocr.toNat < s.cfg.m) {k : Nat} (hpos : 0 < k) (hk : k < compareDistance s) :
    (s.tcnt.toNat + k) % s.cfg.m ≠ s.ocr.toNat := by
  unfold compareDistance at hk
  split at hk
  case isTrue hzero =>
    rw [subMod_eq_zero_iff hocr htcnt] at hzero
    rw [add_mod_eq htcnt hk]
    split <;> omega
  case isFalse => exact add_mod_ne_of_lt_subMod hocr htcnt hk

theorem tcnt_eq_ocr_at (htcnt : s.tcnt.toNat < s.cfg.m) (hocr : s.ocr.toNat < s.cfg.m) :
    (s.tcnt.toNat + compareDistance s) % s.cfg.m = s.ocr.toNat := by
  unfold compareDistance
  split
  case isTrue hzero =>
    rw [subMod_eq_zero_iff hocr htcnt] at hzero
    rw [Nat.add_mod_right, Nat.mod_eq_of_lt htcnt, hzero]
  case isFalse => exact add_subMod_mod hocr htcnt

theorem compareDistance_pos (hvalid : s.cfg.Valid) : 0 < compareDistance s := by
  unfold compareDistance
  split
  · exact m_pos hvalid
  · omega

/-- The next match is `d` counts on, modulo M, when the target is set `d` ahead of the count. -/
theorem compareDistance_eq {t : State} {d : Int} (hvalid : t.cfg.Valid)
    (htarget : (t.ocr.toNat : Int) = (t.tcnt.toNat + d) % t.cfg.m) :
    (compareDistance t : Int) = if d % t.cfg.m = 0 then (t.cfg.m : Int) else d % t.cfg.m := by
  have hdiff : (subMod t.ocr.toNat t.tcnt.toNat t.cfg.m : Int) = d % t.cfg.m := by
    rw [subMod_cast _ _ (m_pos hvalid), htarget, Int.emod_sub_emod, add_sub_cancel_left]
  unfold compareDistance
  rw [← hdiff]
  split
  case isTrue hzero => rw [if_pos (by exact_mod_cast hzero)]
  case isFalse hne => rw [if_neg (by exact_mod_cast hne)]

/-- From 1 to M counts ahead, the distance is that number. -/
theorem compareDistance_of_le {t : State} {n : Nat} (hvalid : t.cfg.Valid) (hpos : 0 < n) (hle : n ≤ t.cfg.m)
    (htarget : (t.ocr.toNat : Int) = (t.tcnt.toNat + (n : Int)) % t.cfg.m) : compareDistance t = n := by
  have hdistance := compareDistance_eq hvalid htarget
  rcases Nat.lt_or_eq_of_le hle with hlt | heq
  · rw [Int.emod_eq_of_lt (by omega) (by omega), if_neg (by omega)] at hdistance
    exact_mod_cast hdistance
  · rw [heq, Int.emod_self, if_pos rfl] at hdistance
    rw [heq]
    exact_mod_cast hdistance

/-- What a TICK without a match leaves for the next sample. -/
structure Waiting (s t : State) : Prop where
  sampleEn : t.sampleEn = s.sampleEn
  ocr : t.ocr = s.ocr
  frameState : t.frameState = s.frameState
  lowCount : t.lowCount = s.lowCount
  highCount : t.highCount = s.highCount

theorem tick_waiting {t : State} (h : Waiting s t) (hmiss : ¬ compareMatch (countTick t.quiet) = true) :
    Waiting s (tick t.quiet) ∧ ∀ f b, Event.bitSample f b ∉ (tick t.quiet).out.events := by
  rw [tick_of_not_match hmiss]
  split
  · obtain ⟨⟨-, -, -, hocr, hsampleEn, -, -, -, hlow, hhigh, -, hframe, -⟩, -⟩ := txStep_frame (countTick t.quiet)
    refine ⟨⟨hsampleEn ▸ h.sampleEn, hocr ▸ h.ocr, hframe ▸ h.frameState, hlow ▸ h.lowCount, hhigh ▸ h.highCount⟩,
      fun f b => ?_⟩
    rw [txStep_events]
    split <;> simp
  · exact ⟨⟨h.sampleEn, h.ocr, h.frameState, h.lowCount, h.highCount⟩, fun f b => List.not_mem_nil⟩

/-- While waiting, the TICK after `k` others matches exactly when the count comes to the target. -/
theorem compareMatch_afterTicks_iff (hvalid : s.cfg.Valid) (htcnt : s.tcnt.toNat < s.cfg.m)
    (hen : s.sampleEn = true) {k : Nat} (h : Waiting s (afterTicks k s)) :
    compareMatch (countTick (afterTicks k s).quiet) = true ↔
      (s.tcnt.toNat + (k + 1)) % s.cfg.m = s.ocr.toNat := by
  have hlt := Nat.mod_lt (s.tcnt.toNat + (k + 1)) (m_pos hvalid)
  have hcount : nextCount (afterTicks k s).quiet = (s.tcnt.toNat + (k + 1)) % s.cfg.m := by
    rw [nextCount, State.quiet_tcnt, State.quiet_cfg, afterTicks_tcnt hvalid htcnt, afterTicks_cfg,
      Nat.mod_add_mod, Nat.add_assoc]
  rw [compareMatch_iff, countTick_sampleEn, countTick_tcnt, countTick_ocr, State.quiet_sampleEn, State.quiet_ocr,
    h.sampleEn, h.ocr, hcount, ← BitVec.toNat_inj, timerWord_toNat hvalid hlt]
  simp [hen]

theorem waiting_afterTicks (hvalid : s.cfg.Valid) (htcnt : s.tcnt.toNat < s.cfg.m) (hocr : s.ocr.toNat < s.cfg.m)
    (hen : s.sampleEn = true) {k : Nat} (hk : k < compareDistance s) :
    Waiting s (afterTicks k s) ∧ (1 ≤ k → ∀ f b, Event.bitSample f b ∉ (afterTicks k s).out.events) := by
  induction k with
  | zero => exact ⟨⟨rfl, rfl, rfl, rfl, rfl⟩, fun hpos => absurd hpos (by omega)⟩
  | succ k ih =>
    obtain ⟨hwaiting, -⟩ := ih (by omega)
    have hmiss := tcnt_ne_ocr_before htcnt hocr (Nat.succ_pos k) hk
    rw [Ne, ← compareMatch_afterTicks_iff hvalid htcnt hen hwaiting] at hmiss
    obtain ⟨hnext, hquiet⟩ := tick_waiting hwaiting hmiss
    exact ⟨hnext, fun _ => hquiet⟩

/-! ### The TICK at the compare distance -/

/-- The decision is the first event of SAMPLE. -/
theorem bitSample_mem_sample (s : State) :
    Event.bitSample s.frameState (decideBit s) ∈ (sample s).out.events := by
  have hmem : Event.bitSample s.frameState (decideBit s) ∈ (rescheduled s).out.events := by simp [rescheduled]
  rw [sample_eq_frameTransition]
  cases hrow : s.frameState with
  | idle => rwa [frameTransition_of_idle (s := rescheduled s) _ hrow, ← hrow]
  | start =>
    rw [frameTransition_of_start (s := rescheduled s) _ hrow, ← hrow]
    split
    · exact List.mem_append_left _ hmem
    · exact hmem
  | data i => rwa [frameTransition_of_data (s := rescheduled s) _ hrow, ← hrow]
  | parity => rwa [frameTransition_of_parity (s := rescheduled s) _ hrow, ← hrow]
  | stop =>
    rw [frameTransition_of_stop (s := rescheduled s) _ hrow, ← hrow]
    split <;> exact List.mem_append_left _ hmem

/-- A TICK that matches emits the decision and sets the target one bit period on. -/
theorem tick_of_match_sample (hmatch : compareMatch (countTick s) = true) :
    Event.bitSample s.frameState (decideBit s) ∈ (tick s).out.events ∧ (tick s).ocr = nextTarget s := by
  have hmem : Event.bitSample s.frameState (decideBit s) ∈ (sample (countTick s)).out.events :=
    bitSample_mem_sample (countTick s)
  have hocr : (sample (countTick s)).ocr = nextTarget s := sample_ocr (countTick s)
  rw [tick_of_match hmatch]
  split
  · obtain ⟨⟨-, -, -, eocr, -⟩, -⟩ := txStep_frame (sample (countTick s))
    rw [txStep_events]
    exact ⟨List.mem_append_left _ hmem, eocr.symm.trans hocr⟩
  · exact ⟨hmem, hocr⟩

/-- Settles O23: the receiver waits for all the TICKs before the distance; the one at the distance matches, and then
the target is BIT_TICKS ahead of the count. -/
theorem sampleFiresAtCompareDistance : Obligations.SampleFiresAtCompareDistance := by
  intro s hvalid htcnt hocr hen
  have hpos := compareDistance_pos hvalid
  obtain ⟨n, hn⟩ : ∃ n, compareDistance s = n + 1 := Nat.exists_eq_succ_of_ne_zero hpos.ne'
  obtain ⟨hwaiting, -⟩ := waiting_afterTicks hvalid htcnt hocr hen (k := n) (by omega)
  have hreached := tcnt_eq_ocr_at htcnt hocr
  have hmatch : compareMatch (countTick (afterTicks n s).quiet) = true := by
    rw [compareMatch_afterTicks_iff hvalid htcnt hen hwaiting, ← hn]
    exact hreached
  obtain ⟨hmem, htarget⟩ := tick_of_match_sample hmatch
  refine ⟨fun k hk => ?before, ?fires, ?next⟩
  case before =>
    obtain ⟨hwait, hsilent⟩ := waiting_afterTicks hvalid htcnt hocr hen hk
    exact ⟨hwait.ocr, hwait.frameState, hsilent⟩
  case fires =>
    rw [hn, afterTicks_succ]
    rw [State.quiet_frameState, hwaiting.frameState] at hmem
    have hbit : decideBit (afterTicks n s).quiet = decide (s.lowCount.toNat < s.highCount.toNat) := by
      rw [decideBit, State.quiet_lowCount, State.quiet_highCount, hwaiting.lowCount, hwaiting.highCount]
    rwa [hbit] at hmem
  case next =>
    have hcfg := afterTicks_cfg (compareDistance s) s
    have hcount : (afterTicks (compareDistance s) s).tcnt.toNat = s.ocr.toNat :=
      (afterTicks_tcnt hvalid htcnt _).trans hreached
    have hnext : (afterTicks (compareDistance s) s).ocr.toNat = (s.ocr.toNat + s.cfg.bitTicks) % s.cfg.m := by
      rw [hn, afterTicks_succ, htarget, nextTarget, State.quiet_ocr, State.quiet_cfg, hwaiting.ocr, afterTicks_cfg]
      exact timerWord_toNat hvalid (Nat.mod_lt _ (m_pos hvalid))
    obtain ⟨-, -, hbit, hbit', -⟩ := id hvalid
    refine compareDistance_of_le (hcfg ▸ hvalid) hbit (hcfg ▸ hbit') ?_
    rw [hnext, hcount, hcfg]
    rfl

/-! ### The first sample of a frame -/

theorem startGate_cases (s : State) : startGate s = s ∨ (startGate s).ocr = firstTarget (startGate s) := by
  rw [startGate_eq]
  split
  · exact .inr rfl
  · exact .inl rfl

theorem startDetect_notMem_accumulate (raw : Nat) (n : Half) (hnone : s.out.events = []) :
    Event.startDetect n ∉ (accumulate raw s).out.events := by
  rw [accumulate_eq]
  dsimp only
  rw [hnone]
  split <;> simp

/-- A crossing that detects a start sets the target from the count and LOW_COUNT that it leaves. -/
theorem ocr_of_startDetect {n : Half} (h : Event.startDetect n ∈ (edge s.quiet).out.events) :
    (edge s.quiet).ocr = firstTarget (edge s.quiet) := by
  rcases edge_cases s.quiet with ⟨-, heq⟩ | ⟨-, -, heq⟩ | ⟨-, -, heq⟩ <;> rw [heq] at h ⊢
  · exact absurd h List.not_mem_nil
  · exact absurd h (by simp)
  · rcases startGate_cases (accumulate (rawInterval s.quiet) (acceptCrossing (rawInterval s.quiet) s.quiet)) with
      hclosed | hopen
    · rw [hclosed] at h
      exact absurd h (startDetect_notMem_accumulate _ n rfl)
    · exact hopen

/-- R130's target is BIT_TICKS - LOW_COUNT ahead of the count, modulo M. -/
theorem firstTarget_toNat {t : State} (hvalid : t.cfg.Valid) (halign : t.cfg.startAlign = .compensated) :
    ((firstTarget t).toNat : Int) = (t.tcnt.toNat + ((t.cfg.bitTicks : Int) - t.lowCount.toNat)) % t.cfg.m := by
  have hpos := m_pos hvalid
  have hlt := subMod_lt (t.tcnt.toNat + t.cfg.bitTicks) t.lowCount.toNat hpos
  simp only [firstTarget, halign]
  rw [timerWord_toNat hvalid hlt, subMod_cast _ _ hpos, Nat.cast_add, add_sub_assoc]

/-- Settles O28: `compareDistance_eq` for BIT_TICKS - LOW_COUNT counts, which are 0 modulo M exactly when the two are
congruent. -/
theorem firstSampleDistance : Obligations.FirstSampleDistance := by
  intro s t hvalid _ halign hexec hstart
  cases hexec
  have hocr := ocr_of_startDetect hstart
  obtain ⟨hcfg, -⟩ := edge_frame s.quiet
  rw [← show (edge s.quiet).cfg = s.cfg from hcfg] at hvalid halign
  generalize edge s.quiet = t at *
  have htarget := firstTarget_toNat hvalid halign
  rw [← hocr] at htarget
  have hdistance := compareDistance_eq hvalid htarget
  have hcongruent : t.lowCount.toNat % t.cfg.m = t.cfg.bitTicks % t.cfg.m ↔
      ((t.cfg.bitTicks : Int) - t.lowCount.toNat) % t.cfg.m = 0 := by
    rw [← Int.emod_eq_emod_iff_emod_sub_eq_zero, eq_comm]
    norm_cast
  refine ⟨fun hbelow => ?below, fun hcong => ?congruent, fun _ hcong => ?above⟩
  case below =>
    obtain ⟨-, -, -, hbit, -⟩ := id hvalid
    refine compareDistance_of_le hvalid (by omega) (by omega) ?_
    rw [htarget, Nat.cast_sub hbelow.le]
  case congruent =>
    rw [if_pos (hcongruent.1 hcong)] at hdistance
    exact_mod_cast hdistance
  case above => rw [hdistance, if_neg (mt hcongruent.2 hcong)]

end

/-! ### The filter -/

/-- The interval is below 2M, since at most one wrap is counted. -/
theorem rawInterval_lt {s : State} (hinv : TimerInv s) : rawInterval s < 2 * s.cfg.m := by
  rw [rawInterval_eq hinv]
  obtain ⟨htcnt, -, hlast, -⟩ := hinv
  split <;> omega

/-- The weights of R124 add up to 1, so the sum fits where both intervals do. -/
theorem smoothed_toNat {raw : Nat} (hraw : raw ≤ 65535) (prev : Half) :
    (smoothed raw prev).toNat = raw / 2 + raw / 4 + prev.toNat / 4 := by
  have hprev := prev.isLt
  rw [smoothed_eq, BitVec.toNat_ofNat]
  exact Nat.mod_eq_of_lt (by omega)

/-- EDGE writes the filter when it accepts the crossing, and only then. -/
theorem edge_prevSmooth (s : State) :
    (edge s).prevSmooth =
      if s.en = true ∧ s.cfg.noiseFloor ≤ rawInterval s then smoothed (rawInterval s) s.prevSmooth
      else s.prevSmooth := by
  rcases edge_cases s with ⟨hended, heq⟩ | ⟨-, hnoise, heq⟩ | ⟨hen, hfloor, heq⟩ <;> rw [heq]
  · rw [if_neg (by simp [hended])]
  · rw [if_neg (fun h => Nat.not_le.2 hnoise h.2)]
    rfl
  · obtain ⟨⟨-, -, -, -, -, -, -, -, -, -, -, -, -, hprev⟩, -⟩ :=
      startGate_accumulate_frame (rawInterval s) (acceptCrossing (rawInterval s) s)
    rw [if_pos ⟨hen, hfloor⟩, hprev, acceptCrossing_prevSmooth]

/-- Settles O27: a weighted mean is at most the larger of its two terms. -/
theorem smoothingNeverOverflows : Obligations.SmoothingNeverOverflows := by
  intro s t hvalid hinv hexec
  cases hexec
  have hraw := rawInterval_lt hinv
  obtain ⟨hm, hm', -⟩ := hvalid
  have hfits : rawInterval s ≤ 65535 := by omega
  have hsmoothed := smoothed_toNat hfits s.prevSmooth
  have hprev : (edge s.quiet).prevSmooth = _ := edge_prevSmooth s.quiet
  rw [rawInterval_quiet, State.quiet_en, State.quiet_cfg, State.quiet_prevSmooth] at hprev
  refine ⟨by omega, hfits, ?bound, fun hen hfloor => ?sum⟩
  case bound =>
    rw [hprev]
    split
    · rw [hsmoothed]
      omega
    · exact le_max_right _ _
  case sum => rw [hprev, if_pos ⟨hen, hfloor⟩, hsmoothed]

/-! ### The byte -/

theorem sample_rxShift_of_data {s : State} {i : Fin 8} (hrow : s.frameState = .data i) :
    (sample s).rxShift = shiftIn (decideBit s) s.rxShift := by
  rw [sample_eq_frameTransition, frameTransition_of_data (s := rescheduled s) _ hrow, shiftIn_eq]
  rfl

/-- Shifting in `k` bits from the top leaves them, lowest first, above what is left of the start. -/
theorem shifted_bits (r b : Nat → Nat) (hshift : ∀ k < 8, r (k + 1) = 128 * b k + r k / 2) {k : Nat} (hk : k ≤ 8) :
    r k = (∑ j ∈ Finset.range k, b j * 2 ^ j) * 2 ^ (8 - k) + r 0 / 2 ^ k := by
  induction k with
  | zero => simp
  | succ k ih =>
    obtain ⟨n, hn⟩ : ∃ n, 8 - k = n + 1 := ⟨8 - (k + 1), by omega⟩
    have hn' : 8 - (k + 1) = n := by omega
    have htop : 2 ^ k * 2 ^ n = 128 := by
      rw [← pow_add, show k + n = 7 by omega]
      rfl
    calc r (k + 1)
        = 128 * b k + ((∑ j ∈ Finset.range k, b j * 2 ^ j) * 2 ^ n * 2 + r 0 / 2 ^ k) / 2 := by
          rw [hshift k (by omega), ih (by omega), hn, pow_succ, mul_assoc]
      _ = 128 * b k + ((∑ j ∈ Finset.range k, b j * 2 ^ j) * 2 ^ n + r 0 / 2 ^ (k + 1)) := by
          rw [pow_succ, ← Nat.div_div_eq_div_mul]
          omega
      _ = (∑ j ∈ Finset.range (k + 1), b j * 2 ^ j) * 2 ^ (8 - (k + 1)) + r 0 / 2 ^ (k + 1) := by
          rw [Finset.sum_range_succ, hn', ← htop]
          ring

theorem shiftIn_toNat_add (bit : Bool) (r : Byte) : (shiftIn bit r).toNat = 128 * bit.toNat + r.toNat / 2 := by
  have hlt := r.isLt
  rw [shiftIn_eq, BitVec.toNat_ofNat]
  cases bit <;> exact Nat.mod_eq_of_lt (by simp; omega)

/-- Settles O30: after eight shifts nothing of the first RX_SHIFT is left. -/
theorem byteReconstruction : Obligations.ByteReconstruction := by
  intro f hrow hsample
  have hshift : ∀ k < 8,
      (f (k + 1)).rxShift.toNat = 128 * (decideBit (f k)).toNat + (f k).rxShift.toNat / 2 := by
    intro k hk
    obtain ⟨t, hexec, hnext⟩ := hsample k hk
    cases hexec
    rw [← hnext, sample_rxShift_of_data (s := (f k).quiet) (hrow k hk), shiftIn_toNat_add]
    rfl
  have hbyte := (f 0).rxShift.isLt
  have hbits := shifted_bits (fun k => (f k).rxShift.toNat) (fun k => (decideBit (f k)).toNat) hshift le_rfl
  rw [hbits, Nat.div_eq_of_lt hbyte, Nat.sub_self, pow_zero, mul_one, add_zero]
  refine Finset.sum_congr rfl fun k _ => ?_
  by_cases hbit : (f k).lowCount.toNat < (f k).highCount.toNat <;> simp [decideBit, hbit]

end Sys2Proof.Machine

/-! The assembly language: lines, programs and the words of a tone (30_encoding.md R92 to R94). -/

namespace Sys2Proof.Machine

/-! ### Programs -/

/-- Settles O7: by the lines; an error at the head or in the rest is the program's, and words are appended. -/
theorem assemblyIsAllOrNothing : Obligations.AssemblyIsAllOrNothing := by
  intro c lines
  induction lines with
  | nil =>
    refine ⟨fun ⟨l, hl, _⟩ => absurd hl List.not_mem_nil, fun ws hws => ?_⟩
    rw [List.map_nil, eq_comm, List.map_eq_nil_iff] at hws
    rw [hws]
    rfl
  | cons line rest ih =>
    obtain ⟨hbad, hgood⟩ := ih
    refine ⟨fun ⟨l, hl, e, he⟩ => ?bad, fun ws hws => ?good⟩
    case bad =>
      rcases hline : assembleLine c line with e' | words
      · exact ⟨e', by simp only [assemble, hline]⟩
      · have hrest : ∃ l ∈ rest, ∃ e, assembleLine c l = .error e := by
          rcases List.mem_cons.1 hl with rfl | hl
          · rw [hline] at he
            cases he
          · exact ⟨l, hl, e, he⟩
        obtain ⟨e', he'⟩ := hbad hrest
        exact ⟨e', by simp only [assemble, hline, he']⟩
    case good =>
      obtain ⟨w, ws', rfl, hline, hrest⟩ := List.map_eq_cons_iff.1 hws.symm
      simp only [assemble, ← hline, hgood ws' hrest.symm, List.flatten_cons]

/-! ### Lines -/

theorem assembleLine_of_statement {line : List Char} {st : AsmStatement}
    (h : parseTokens (lineTokens [] line) = .ok (some st)) (c : Config) :
    assembleLine c line = .ok (st.words c) := by
  simp only [assembleLine, h]

theorem assembleLine_of_error {line : List Char} {e : AsmError} (h : parseTokens (lineTokens [] line) = .error e)
    (c : Config) : assembleLine c line = .error e := by
  simp only [assembleLine, h]

/-- Settles O5: each line is one statement, whose word is evaluated; so are the decoded words. -/
theorem workedEncodings : Obligations.WorkedEncodings := by
  refine ⟨fun c => ⟨?_, ?_, ?_, ?_, ?_, ?_, ?_, ?_⟩, ?_⟩
  · exact assembleLine_of_statement (st := .wr 0#4 1#16) (by decide) c
  · exact assembleLine_of_statement (st := .wr 0#4 0#16) (by decide) c
  · exact assembleLine_of_statement (st := .rd 3#4) (by decide) c
  · exact assembleLine_of_statement (st := .rd 2#4) (by decide) c
  · exact assembleLine_of_statement (st := .wr 4#4 0x5A#16) (by decide) c
  · exact assembleLine_of_statement (st := .wr 5#4 1#16) (by decide) c
  · exact assembleLine_of_statement (st := .rd 6#4) (by decide) c
  · exact assembleLine_of_statement (st := .rd 15#4) (by decide) c
  · decide

theorem parseTokens_wr (r d : List Char) : parseTokens ["WR".toList, r, ",".toList, d] = parseWr r d := rfl

theorem parseTokens_rd (r : List Char) : parseTokens ["RD".toList, r] = parseRd r := rfl

/-- A WR does not parse when its register or its literal does not. -/
theorem parseWr_error {r d : List Char}
    (h : (∃ e, registerAddress r = .error e) ∨ ∃ e, boundedLiteral 0xFFFF d = .error e) :
    ∃ e, parseWr r d = .error e := by
  unfold parseWr
  rcases hr : registerAddress r with e | a
  · exact ⟨e, rfl⟩
  · rcases hd : boundedLiteral 0xFFFF d with e | n
    · exact ⟨e, rfl⟩
    · rcases h with ⟨e, he⟩ | ⟨e, he⟩
      · rw [hr] at he
        cases he
      · rw [hd] at he
        cases he

theorem parseRd_error {r : List Char} (h : ∃ e, registerAddress r = .error e) : ∃ e, parseRd r = .error e := by
  obtain ⟨e, he⟩ := h
  exact ⟨e, by simp only [parseRd, he]⟩

theorem boundedLiteral_error {bound n : Nat} {d : List Char} (hd : literalValue d = some n) (hn : bound < n) :
    boundedLiteral bound d = .error .badLiteral := by
  simp only [boundedLiteral, hd, if_neg (Nat.not_le.2 hn)]

/-- The tokens that name no register of R61 and no address up to 15. -/
theorem registerAddress_error {r : List Char}
    (hname : r ∉ ["CTRL", "STATUS", "AVAIL", "RXDATA", "TXDATA", "TXBIT", "LOWCNT", "HIGHCNT", "TCNT", "OCR",
      "LASTTICK", "PREVSM", "RXSHIFT", "BWO"].map String.toList)
    (haddr : ∀ ds n, r = '@' :: ds → literalValue ds = some n → 15 < n) :
    ∃ e, registerAddress r = .error e := by
  unfold registerAddress
  split
  case h_15 ds =>
    rcases hds : literalValue ds with _ | n
    · exact ⟨_, rfl⟩
    · exact ⟨_, if_neg (Nat.not_le.2 (haddr ds n rfl hds))⟩
  case h_16 => exact ⟨_, rfl⟩
  all_goals exact absurd (by decide) hname

/-- Settles O8: the tokens of the line fix how it is read, and a WR checks its register and its literal. -/
theorem assemblyErrors : Obligations.AssemblyErrors := by
  refine ⟨fun c line r d n htokens hd hn => ?literal, fun c line r hname haddr => ?register, fun c => ⟨?_, ?_⟩⟩
  case literal =>
    obtain ⟨e, he⟩ := parseWr_error (r := r) (.inr ⟨_, boundedLiteral_error hd hn⟩)
    rw [← parseTokens_wr, ← htokens] at he
    exact ⟨e, assembleLine_of_error he c⟩
  case register =>
    have hr := registerAddress_error hname haddr
    refine ⟨fun htokens => ?_, fun d htokens => ?_⟩
    · obtain ⟨e, he⟩ := parseRd_error hr
      rw [← parseTokens_rd, ← htokens] at he
      exact ⟨e, assembleLine_of_error he c⟩
    · obtain ⟨e, he⟩ := parseWr_error (d := d) (.inl hr)
      rw [← parseTokens_wr, ← htokens] at he
      exact ⟨e, assembleLine_of_error he c⟩
  · exact assembleLine_of_error (by decide) c
  · exact assembleLine_of_error (by decide) c

/-! ### The words of a tone -/

/-- R93 counted: each half-period has a TICK, an EDGE and the other NOM - 1 TICKs. -/
theorem toneWords_countP (c : Config) (b : Bool) (p : StimulusWord → Bool) :
    (toneWords c b).countP p =
      2 * toneCyc c b *
        ((toneNom c b - 1) * (p 0x000000#24).toNat + (p 0x400000#24).toNat + (p 0x000000#24).toNat) := by
  rw [toneWords, List.countP_flatten, List.map_replicate, List.sum_replicate, smul_eq_mul, List.countP_cons,
    List.countP_cons, List.countP_replicate]
  cases p 0x000000#24 <;> cases p 0x400000#24 <;> simp

/-- Settles O9: each half-period has NOM TICKs and one EDGE. -/
theorem toneExpansion : Obligations.ToneExpansion := by
  intro c b hvalid
  have hnom : 1 ≤ toneNom c b := by
    obtain ⟨-, -, -, -, hlow, hhigh, -⟩ := hvalid
    cases b
    · exact hlow
    · exact hhigh
  have hwords : toneNom c b - 1 + 1 + 1 = toneNom c b + 1 := by omega
  have hticks : toneNom c b - 1 + 1 = toneNom c b := by omega
  have htick : (decode 0x000000#24 == .tick) = true ∧ (decode 0x400000#24 == .tick) = false := by decide
  have hedge : (decode 0x000000#24 == .edge) = false ∧ (decode 0x400000#24 == .edge) = true := by decide
  refine ⟨?length, ?ticks, ?edges⟩
  case length => simpa [hwords] using toneWords_countP c b fun _ => true
  case ticks =>
    rw [← List.countP_eq_length_filter, toneWords_countP, htick.1, htick.2, toneTicks]
    simpa using congrArg (2 * toneCyc c b * ·) hticks
  case edges =>
    rw [← List.countP_eq_length_filter, toneWords_countP, hedge.1, hedge.2]
    simp

end Sys2Proof.Machine

/-! The timing of a transmission, and TONEFRAME as its loopback (44_modulator.md R217, R218, 30_encoding.md R93). -/

namespace Sys2Proof.Machine

/-! ### Which TICKs toggle the line -/

theorem toggles_emit {e : Event} {s : State} (he : ∀ level, e ≠ .txToggle level) :
    toggles (s.emit e) = toggles s := by
  cases e
  case txToggle level => exact absurd rfl (he level)
  all_goals simp [toggles]

theorem toggles_of_events {s t : State} (h : t.out = s.out) : toggles t = toggles s := by
  rw [toggles, toggles, h]

/-- A sample emits decisions, false starts and bytes, and no crossing. -/
theorem toggles_sample (s : State) : toggles (sample s) = toggles s := by
  have hrescheduled : toggles (rescheduled s) = toggles s := toggles_emit nofun
  rw [sample_eq_frameTransition, ← hrescheduled]
  cases hrow : s.frameState with
  | idle => rw [frameTransition_of_idle (s := rescheduled s) _ hrow]
  | start =>
    rw [frameTransition_of_start (s := rescheduled s) _ hrow]
    split
    · exact toggles_emit nofun
    · exact toggles_of_events rfl
  | data i =>
    rw [frameTransition_of_data (s := rescheduled s) _ hrow]
    exact toggles_of_events rfl
  | parity =>
    rw [frameTransition_of_parity (s := rescheduled s) _ hrow]
    exact toggles_of_events rfl
  | stop =>
    rw [frameTransition_of_stop (s := rescheduled s) _ hrow]
    split <;> exact toggles_emit nofun

theorem toggles_receiverTick (s : State) : toggles (receiverTick s) = toggles s := by
  unfold receiverTick
  split
  · exact toggles_sample (countTick s)
  · rfl

/-- A TICK of a transmission crosses the line exactly when a half-cycle starts. -/
theorem toggles_tick_iff {s : State} (hbusy : s.txBusy = true) :
    toggles (tick s.quiet) = true ↔ s.txWait = 0#16 := by
  obtain ⟨-, -, -, -, -, -, hwait, -⟩ := sameTransmitter_receiverTick s.quiet
  have hquiet : toggles (receiverTick s.quiet) = false := toggles_receiverTick s.quiet
  rw [toggles] at hquiet
  rw [tick_eq_receiverTick, State.quiet_txBusy, if_pos hbusy, toggles, txStep_events, List.any_append, hquiet,
    ← hwait, Bool.false_or, State.quiet_txWait]
  split
  case isTrue hzero => simp [hzero]
  case isFalse hpos => simp [hpos]

/-! ### Within a bit -/

/-- `t` is `r` TICKs into bit `k` of a transmission of `n` bits of `f` whose bits start with the line at `level`: the
countdown and the half-cycles to come fill the rest of the bit, and the line has crossed once for each one begun. -/
structure InBit (c : Config) (f : BitVec 13) (n : Nat) (level : Bool) (k r : Nat) (t : State) : Prop where
  cfg : t.cfg = c
  busy : t.txBusy = true
  frame : t.txFrame = f
  nbits : t.txNbits.toNat = n
  idx : t.txIdx.toNat = k
  half : t.txHalf.toNat = toneNom c (f.getLsbD k)
  wait : t.txWait.toNat < toneNom c (f.getLsbD k)
  rest : r + t.txWait.toNat + t.txHalves.toNat * toneNom c (f.getLsbD k) = toneTicks c (f.getLsbD k)
  line : t.txout = (level ^^ t.txHalves.getLsbD 0)

section
variable {c : Config} {f : BitVec 13} {n : Nat} {level : Bool} {k r : Nat} {t : State}

theorem InBit.of_same {t' : State} (hsame : SameTransmitter t t') (h : InBit c f n level k r t) :
    InBit c f n level k r t' := by
  obtain ⟨hcfg, hbusy, hframe, hnbits, hidx, hhalves, hwait, hhalf, htxout⟩ := hsame
  constructor
  · exact hcfg ▸ h.cfg
  · exact hbusy ▸ h.busy
  · exact hframe ▸ h.frame
  · exact hnbits ▸ h.nbits
  · exact hidx ▸ h.idx
  · exact hhalf ▸ h.half
  · exact hwait ▸ h.wait
  · exact hwait ▸ hhalves ▸ h.rest
  · exact htxout ▸ hhalves ▸ h.line

/-- Half-cycles start at the multiples of NOM. -/
theorem InBit.txWait_eq_zero_iff (h : InBit c f n level k r t) :
    t.txWait = 0#16 ↔ r % toneNom c (f.getLsbD k) = 0 := by
  have hrest := h.rest
  rw [toneTicks] at hrest
  rw [← BitVec.toNat_inj, ← Nat.dvd_iff_mod_eq_zero]
  have hdvd : toneNom c (f.getLsbD k) ∣ r + t.txWait.toNat := by
    rw [← Nat.dvd_add_left (Nat.dvd_mul_left _ t.txHalves.toNat), hrest]
    exact Nat.dvd_mul_left _ _
  constructor
  · intro hzero
    rw [hzero] at hdvd
    exact hdvd
  · intro hr
    exact Nat.eq_zero_of_dvd_of_lt ((Nat.dvd_add_right hr).1 hdvd) h.wait

/-- A loaded bit is at its start. -/
theorem InBit.loadBit (hvalid : c.Valid) (hfit : c.TonesFit) (hcfg : t.cfg = c) (hbusy : t.txBusy = true)
    (hframe : t.txFrame = f) (hnbits : t.txNbits.toNat = n) (hidx : t.txIdx.toNat = k) (htxout : t.txout = level) :
    InBit c f n level k 0 (loadBit (f.getLsbD k) t) := by
  subst hcfg
  have hnom := toneNom_half_toNat hvalid hfit (f.getLsbD k)
  have hhalves := toneCyc_halves_toNat hvalid hfit (f.getLsbD k)
  obtain ⟨hpos, -⟩ := toneNom_bounds hvalid hfit (f.getLsbD k)
  refine ⟨rfl, hbusy, hframe, hnbits, hidx, hnom, hpos, ?rest, ?line⟩
  case rest =>
    rw [loadBit_txHalves, loadBit_txWait, hhalves, toneTicks]
    simp
  case line =>
    rw [loadBit_txout, loadBit_txHalves, getLsbD_zero_eq, hhalves, htxout]
    simp

theorem sub_one_toNat {h : Half} (hpos : h ≠ 0#16) : (h - 1#16).toNat + 1 = h.toNat := by
  have hne : h.toNat ≠ 0 := fun hzero => hpos (BitVec.eq_of_toNat_eq hzero)
  have hlt := h.isLt
  rw [BitVec.toNat_sub]
  simp
  omega

/-- The line and the counters after one TXSTEP, before the end of the bit is looked at. -/
def counted (s : State) : State :=
  { s with
    txout := if s.txWait = 0#16 then !s.txout else s.txout
    txHalves := if s.txWait = 0#16 then s.txHalves - 1#16 else s.txHalves
    txWait := (if s.txWait = 0#16 then s.txHalf else s.txWait) - 1#16
    out := ⟨s.out.events ++ (if s.txWait = 0#16 then [.txToggle (!s.txout)] else []), s.out.response⟩ }

theorem txStep_eq_counted (s : State) :
    txStep s =
      if (counted s).txWait = 0#16 ∧ (counted s).txHalves = 0#16 then txAdvance (counted s) else counted s := by
  obtain ⟨_, rfl, ⟨hwait, hhalves, hstep⟩ | ⟨hwithin, hstep⟩⟩ := txStep_cases s
  · rw [hstep]
    exact (if_pos ⟨hwait, hhalves⟩).symm
  · rw [hstep]
    exact (if_neg hwithin).symm

theorem counted_of_start (hstart : t.txWait = 0#16) :
    (counted t).txHalves = t.txHalves - 1#16 ∧ (counted t).txWait = t.txHalf - 1#16 ∧
      (counted t).txout = !t.txout := by
  simp only [counted, if_pos hstart, and_self]

theorem counted_of_within (hwithin : t.txWait ≠ 0#16) :
    (counted t).txHalves = t.txHalves ∧ (counted t).txWait = t.txWait - 1#16 ∧ (counted t).txout = t.txout := by
  simp only [counted, if_neg hwithin, and_self]

/-- One TICK takes one from the countdown, a new half-cycle one from the half-cycles to come. -/
theorem InBit.counted (hvalid : c.Valid) (hfit : c.TonesFit) (h : InBit c f n level k r t)
    (hr : r < toneTicks c (f.getLsbD k)) : InBit c f n level k (r + 1) (counted t) := by
  obtain ⟨hpos, -⟩ := toneNom_bounds hvalid hfit (f.getLsbD k)
  obtain ⟨hcfg, hbusy, hframe, hnbits, hidx, hhalf, hwait, hrest, hline⟩ := h
  by_cases hstart : t.txWait = 0#16
  · obtain ⟨ehalves, ewait, etxout⟩ := counted_of_start hstart
    have hzero : t.txWait.toNat = 0 := congrArg BitVec.toNat hstart
    have hmore : t.txHalves ≠ 0#16 := by
      intro hnone
      rw [hzero, hnone, BitVec.toNat_zero, Nat.zero_mul] at hrest
      omega
    have hhalfPos : t.txHalf ≠ 0#16 := by
      intro hnone
      rw [hnone, BitVec.toNat_zero] at hhalf
      omega
    have hhalves := sub_one_toNat hmore
    have hdown := sub_one_toNat hhalfPos
    refine ⟨hcfg, hbusy, hframe, hnbits, hidx, hhalf, ?_, ?_, ?_⟩
    · rw [ewait]
      omega
    · rw [← hhalves, Nat.succ_mul] at hrest
      rw [ewait, ehalves]
      omega
    · rw [etxout, ehalves, getLsbD_zero_sub_one, hline, Bool.xor_not]
  · obtain ⟨ehalves, ewait, etxout⟩ := counted_of_within hstart
    have hdown := sub_one_toNat hstart
    refine ⟨hcfg, hbusy, hframe, hnbits, hidx, hhalf, ?_, ?_, ?_⟩
    · rw [ewait]
      omega
    · rw [ewait, ehalves]
      omega
    · rw [etxout, ehalves, hline]

/-- The bit is over when no TICK of it is left. -/
theorem InBit.ends_iff (hvalid : c.Valid) (hfit : c.TonesFit) (h : InBit c f n level k r t) :
    t.txWait = 0#16 ∧ t.txHalves = 0#16 ↔ r = toneTicks c (f.getLsbD k) := by
  obtain ⟨hpos, -⟩ := toneNom_bounds hvalid hfit (f.getLsbD k)
  have hrest := h.rest
  rw [← BitVec.toNat_inj, ← BitVec.toNat_inj, BitVec.toNat_zero]
  constructor
  · rintro ⟨hwait, hhalves⟩
    rw [hwait, hhalves] at hrest
    omega
  · intro hr
    have hnone : t.txHalves.toNat * toneNom c (f.getLsbD k) = 0 := by omega
    exact ⟨by omega, (Nat.mul_eq_zero.1 hnone).resolve_right (by omega)⟩

/-- A TICK within a bit goes on in it; the last TICK of a bit loads the next one, or ends the transmission with the
line back at its level. -/
theorem InBit.tick (hvalid : c.Valid) (hfit : c.TonesFit) (hn : n ≤ 13) (hk : k < n) (h : InBit c f n level k r t)
    (hr : r < toneTicks c (f.getLsbD k)) :
    (r + 1 < toneTicks c (f.getLsbD k) ∧ InBit c f n level k (r + 1) (tick t.quiet)) ∨
    (r + 1 = toneTicks c (f.getLsbD k) ∧
      ((k + 1 < n ∧ InBit c f n level (k + 1) 0 (tick t.quiet)) ∨
       (k + 1 = n ∧ (tick t.quiet).txBusy = false ∧ (tick t.quiet).txout = level))) := by
  have hsame : SameTransmitter t (receiverTick t.quiet) := sameTransmitter_receiverTick t.quiet
  have hcounted := (h.of_same hsame).counted hvalid hfit hr
  have hends := hcounted.ends_iff hvalid hfit
  rw [tick_eq_receiverTick, State.quiet_txBusy, if_pos h.busy, txStep_eq_counted]
  generalize Machine.counted (receiverTick t.quiet) = u at *
  rcases Nat.lt_or_eq_of_le (Nat.succ_le_of_lt hr) with hwithin | hlast
  · rw [if_neg (fun hend => Nat.ne_of_lt hwithin (hends.1 hend))]
    exact .inl ⟨hwithin, hcounted⟩
  · have hend := hends.2 hlast
    have hline : u.txout = level := by
      rw [hcounted.line, hend.2, BitVec.getLsbD_zero, Bool.xor_false]
    have hidx : (u.txIdx + 1#4).toNat = k + 1 := by
      rw [BitVec.toNat_add, hcounted.idx]
      exact Nat.mod_eq_of_lt (by simp; omega)
    rw [if_pos hend]
    refine .inr ⟨hlast, ?_⟩
    rcases Nat.lt_or_eq_of_le (Nat.succ_le_of_lt hk) with hnext | hfinal
    · have hmore : (u.txIdx + 1#4).toNat < u.txNbits.toNat := by rwa [hidx, hcounted.nbits]
      have hbit : u.txFrame.getLsbD (k + 1) = f.getLsbD (k + 1) := by rw [hcounted.frame]
      rw [txAdvance_of_more hmore, hidx, hbit]
      exact .inl ⟨hnext, .loadBit (t := { u with txIdx := u.txIdx + 1#4 }) hvalid hfit hcounted.cfg hcounted.busy
        hcounted.frame hcounted.nbits hidx hline⟩
    · have hdone : u.txNbits.toNat ≤ (u.txIdx + 1#4).toNat := by
        rw [hidx, hcounted.nbits]
        omega
      rw [txAdvance_of_last hdone]
      exact .inr ⟨hfinal, rfl, hline⟩

/-! ### Along a transmission -/

theorem afterTicks_add (m : Nat) (s : State) (p : Nat) : afterTicks (m + p) s = afterTicks p (afterTicks m s) := by
  induction p with
  | zero => rfl
  | succ p ih => rw [← Nat.add_assoc, afterTicks_succ, afterTicks_succ, ih]

/-- From the start of a bit, each TICK of it is one further. -/
theorem InBit.afterTicks (hvalid : c.Valid) (hfit : c.TonesFit) (hn : n ≤ 13) (hk : k < n)
    (h : InBit c f n level k 0 t) (hr : r < toneTicks c (f.getLsbD k)) :
    InBit c f n level k r (afterTicks r t) := by
  induction r with
  | zero => exact h
  | succ r ih =>
    rcases (ih (by omega)).tick hvalid hfit hn hk (by omega) with ⟨-, hnext⟩ | ⟨hlast, -⟩
    · exact hnext
    · exact absurd hlast (by omega)

theorem toneTicks_pos (hvalid : c.Valid) (hfit : c.TonesFit) (x : Bool) : 0 < toneTicks c x := by
  obtain ⟨hnom, -⟩ := toneNom_bounds hvalid hfit x
  obtain ⟨hcyc, -⟩ := toneCyc_bounds hvalid hfit x
  exact Nat.mul_pos (Nat.mul_pos (by decide) hcyc) hnom

/-- The last TICK of a bit leads to the start of the next, or to the end. -/
theorem InBit.afterBit (hvalid : c.Valid) (hfit : c.TonesFit) (hn : n ≤ 13) (hk : k < n)
    (h : InBit c f n level k 0 t) :
    (k + 1 < n ∧ InBit c f n level (k + 1) 0 (Machine.afterTicks (toneTicks c (f.getLsbD k)) t)) ∨
    (k + 1 = n ∧ (Machine.afterTicks (toneTicks c (f.getLsbD k)) t).txBusy = false ∧
      (Machine.afterTicks (toneTicks c (f.getLsbD k)) t).txout = level) := by
  obtain ⟨r, hr⟩ := Nat.exists_eq_succ_of_ne_zero (toneTicks_pos hvalid hfit (f.getLsbD k)).ne'
  have hlast := h.afterTicks hvalid hfit hn hk (r := r) (by omega)
  rcases hlast.tick hvalid hfit hn hk (by omega) with ⟨hwithin, -⟩ | ⟨-, hend⟩
  · exact absurd hwithin (by omega)
  · rw [hr]
    exact hend

/-- Bit `k` starts after the TICKs of the bits before it. -/
theorem InBit.bitStart (hvalid : c.Valid) (hfit : c.TonesFit) (hn : n ≤ 13) (h : InBit c f n level 0 0 t)
    (hk : k < n) : InBit c f n level k 0 (Machine.afterTicks (bitStart c f k) t) := by
  induction k with
  | zero => exact h
  | succ k ih =>
    rw [Machine.bitStart, afterTicks_add]
    rcases (ih (by omega)).afterBit hvalid hfit hn (by omega) with ⟨-, hnext⟩ | ⟨hfinal, -⟩
    · exact hnext
    · exact absurd hfinal (by omega)

/-- Every TICK of the first `n` bits is some TICK of some bit. -/
theorem exists_bit_of_lt_bitStart (c : Config) (f : BitVec 13) {n m : Nat} (hm : m < bitStart c f n) :
    ∃ k < n, ∃ r < toneTicks c (f.getLsbD k), m = bitStart c f k + r := by
  induction n with
  | zero => exact absurd hm (Nat.not_lt_zero m)
  | succ n ih =>
    rcases Nat.lt_or_ge m (Machine.bitStart c f n) with hbefore | hwithin
    · obtain ⟨k, hk, hr⟩ := ih hbefore
      exact ⟨k, hk.trans (Nat.lt_succ_self n), hr⟩
    · rw [Machine.bitStart] at hm
      exact ⟨n, Nat.lt_succ_self n, m - Machine.bitStart c f n, by omega, by omega⟩

end

/-! ### The accepted write -/

section
variable {s u : State} {f : BitVec 13} {n : Nat}

theorem startTransmission_inBit (hvalid : s.cfg.Valid) (hfit : s.cfg.TonesFit) (f : BitVec 13) (n : BitVec 4) :
    InBit s.cfg f n.toNat s.txout 0 0 (startTransmission f n s.quiet) :=
  .loadBit (t := { s.quiet with txFrame := f, txNbits := n, txIdx := 0#4, txBusy := true }) hvalid hfit
    rfl rfl rfl rfl rfl rfl

/-- An accepted writeByte or emitBit is at the start of the first of its bits. -/
theorem inBit_of_write (hvalid : s.cfg.Valid) (hfit : s.cfg.TonesFit) (hfree : s.txBusy = false)
    (hmod : s.cfg.hasModulator = true) (htxen : s.txen = true)
    (hwrite : (∃ x b, exec (.wrTxdata x b) s = .next u ∧ f = frameOf b ∧ n = 13) ∨
      ∃ x b, exec (.wrTxbit x b) s = .next u ∧ f = BitVec.ofNat 13 b.toNat ∧ n = 1) :
    InBit s.cfg f n s.txout 0 0 u ∧ 0 < n ∧ n ≤ 13 := by
  rcases hwrite with ⟨x, b, hexec, rfl, rfl⟩ | ⟨x, b, hexec, rfl, rfl⟩
  · obtain ⟨-, -, -, hstart⟩ := hostAccess_transmitWrite (frameOf b) 13#4 s
    cases hexec.symm.trans (hstart hfree hmod htxen)
    exact ⟨startTransmission_inBit hvalid hfit (frameOf b) 13#4, by decide, by decide⟩
  · obtain ⟨-, -, -, hstart⟩ := hostAccess_transmitWrite (b.setWidth 13) 1#4 s
    cases hexec.symm.trans (hstart hfree hmod htxen)
    rw [BitVec.ofNat_toNat]
    exact ⟨startTransmission_inBit hvalid hfit (b.setWidth 13) 1#4, by decide, by decide⟩

/-- The TICK after `r` others of bit `k` crosses the line exactly at the multiples of NOM. -/
theorem toggles_afterTicks_iff {c : Config} {level : Bool} (hvalid : c.Valid) (hfit : c.TonesFit) (hn : n ≤ 13)
    (h : InBit c f n level 0 0 u) {k r : Nat} (hk : k < n) (hr : r < toneTicks c (f.getLsbD k)) :
    toggles (afterTicks (bitStart c f k + r + 1) u) = true ↔ r % toneNom c (f.getLsbD k) = 0 := by
  have hbit := (h.bitStart hvalid hfit hn hk).afterTicks hvalid hfit hn hk hr
  rw [← afterTicks_add] at hbit
  rw [afterTicks_succ, toggles_tick_iff hbit.busy]
  exact hbit.txWait_eq_zero_iff

/-- Settles O51: every TICK of the transmission is some TICK of some bit, and the last one ends it. -/
theorem transmissionTiming : Obligations.TransmissionTiming := by
  intro s u f n hvalid hfit hfree hmod htxen hwrite
  obtain ⟨hstart, hpos, hn⟩ := inBit_of_write hvalid hfit hfree hmod htxen hwrite
  have hend : (afterTicks (bitStart s.cfg f n) u).txBusy = false ∧
      (afterTicks (bitStart s.cfg f n) u).txout = s.txout := by
    obtain ⟨k, rfl⟩ := Nat.exists_eq_succ_of_ne_zero hpos.ne'
    rw [bitStart, afterTicks_add]
    rcases (hstart.bitStart hvalid hfit hn (Nat.lt_succ_self k)).afterBit hvalid hfit hn (Nat.lt_succ_self k) with
      ⟨hnext, -⟩ | ⟨-, hdone⟩
    · exact absurd hnext (Nat.lt_irrefl _)
    · exact hdone
  refine ⟨fun k hk r hr => toggles_afterTicks_iff hvalid hfit hn hstart hk hr, fun m hm => ?busy, hend⟩
  case busy =>
    obtain ⟨k, hk, r, hr, rfl⟩ := exists_bit_of_lt_bitStart s.cfg f hm
    rw [afterTicks_add]
    exact ((hstart.bitStart hvalid hfit hn hk).afterTicks hvalid hfit hn hk hr).busy

/-! ### The loopback -/

/-- The loopback of one TICK: the TICK, and a crossing after it where the line crossed. -/
def loopbackWords (crosses : Bool) : List StimulusWord :=
  if crosses then [0x000000#24, 0x400000#24] else [0x000000#24]

/-- One half-period, TICK by TICK: an EDGE after its first TICK. -/
theorem halfPeriod_eq {nom : Nat} (hnom : 0 < nom) :
    ((List.range nom).flatMap fun r => loopbackWords (decide (r % nom = 0))) =
      0x000000#24 :: 0x400000#24 :: List.replicate (nom - 1) 0x000000#24 := by
  obtain ⟨p, rfl⟩ := Nat.exists_eq_succ_of_ne_zero hnom.ne'
  have hrest : ∀ r ∈ List.range p, loopbackWords (decide ((r + 1) % (p + 1) = 0)) = [0x000000#24] := by
    intro r hr
    have hlt := List.mem_range.1 hr
    rw [Nat.mod_eq_of_lt (by omega)]
    rfl
  have hticks : (List.range p).flatMap (fun _ => [0x000000#24]) = List.replicate p 0x000000#24 := by
    exact (List.flatMap_pure_eq_map _ _).trans (by simp)
  rw [List.range_succ_eq_map, List.flatMap_cons, List.flatMap_map, List.flatMap_congr hrest, hticks]
  simp [loopbackWords]

/-- Half-periods one after another. -/
theorem halfPeriods_eq {nom : Nat} (hnom : 0 < nom) (j : Nat) :
    ((List.range (j * nom)).flatMap fun r => loopbackWords (decide (r % nom = 0))) =
      (List.replicate j (0x000000#24 :: 0x400000#24 :: List.replicate (nom - 1) 0x000000#24)).flatten := by
  induction j with
  | zero => simp
  | succ j ih =>
    have hshift : ∀ r, (j * nom + r) % nom = r % nom := fun r => Nat.mul_add_mod_self_right j nom r
    rw [Nat.succ_mul, List.range_add, List.flatMap_append, ih, List.flatMap_map, List.replicate_succ',
      List.flatten_append, List.flatten_singleton]
    simp only [hshift]
    rw [halfPeriod_eq hnom]

/-- The words of the bits before bit `k` are the loopback of their TICKs. -/
theorem tones_eq_loopback {c : Config} {level : Bool} (hvalid : c.Valid) (hfit : c.TonesFit) (hn : n ≤ 13)
    (h : InBit c f n level 0 0 u) {k : Nat} (hk : k ≤ n) :
    ((List.range k).map fun i => toneWords c (f.getLsbD i)).flatten =
      (List.range (bitStart c f k)).flatMap fun i => loopbackWords (toggles (afterTicks (i + 1) u)) := by
  induction k with
  | zero => rfl
  | succ k ih =>
    obtain ⟨hnom, -⟩ := toneNom_bounds hvalid hfit (f.getLsbD k)
    have hbit : ∀ r ∈ List.range (toneTicks c (f.getLsbD k)),
        loopbackWords (toggles (afterTicks (bitStart c f k + r + 1) u)) =
          loopbackWords (decide (r % toneNom c (f.getLsbD k) = 0)) := by
      intro r hr
      have hiff := toggles_afterTicks_iff hvalid hfit hn h (Nat.lt_of_succ_le hk) (List.mem_range.1 hr)
      rw [Bool.eq_iff_iff.2 (hiff.trans decide_eq_true_iff.symm)]
    rw [List.range_succ, List.map_append, List.flatten_append, ih (by omega), List.map_singleton,
      List.flatten_singleton, toneWords, bitStart, List.range_add, List.flatMap_append, List.flatMap_map,
      List.flatMap_congr hbit, toneTicks, halfPeriods_eq hnom]

/-- Settles O52: the thirteen tones of the frame are the loopback of the thirteen bits of the transmission. -/
theorem toneFrameIsTheLoopback : Obligations.ToneFrameIsTheLoopback := by
  intro s u x b hvalid hfit hfree hmod htxen hexec
  obtain ⟨hstart, -, hn⟩ := inBit_of_write hvalid hfit hfree hmod htxen (.inl ⟨x, b, hexec, rfl, rfl⟩)
  exact tones_eq_loopback hvalid hfit hn hstart le_rfl

end

end Sys2Proof.Machine
